-- ==== Sys2Proof/Word.lean ====
section
/-! DEFINITION. The plainest value types: bytes, and a table of fixed length.

A `Tab n α` holds exactly `n` entries.
It is the shape of every record table the spec gives the part: three zones, eleven sources, seventeen level records.
-/
namespace Sys2Proof

/-- One byte of a slot, frame, notice or keypad message. -/
abbrev Byte := BitVec 8

/-- A table of exactly `n` entries. -/
structure Tab (n : Nat) (α : Type) where
  entries : List α
  size : entries.length = n
  deriving DecidableEq, Repr

/-- The entry at an index. -/
def Tab.get {n : Nat} {α : Type} (t : Tab n α) (i : Fin n) : α :=
  t.entries.get ⟨i.val, by rw [t.size]; exact i.isLt⟩

/-- The table with one entry replaced. -/
def Tab.set {n : Nat} {α : Type} (t : Tab n α) (i : Fin n) (a : α) : Tab n α :=
  ⟨t.entries.set i.val a, by rw [List.length_set]; exact t.size⟩

/-- The table holding one value everywhere. -/
def Tab.replicate (n : Nat) {α : Type} (a : α) : Tab n α :=
  ⟨List.replicate n a, by rw [List.length_replicate]⟩

/-- The table with a function applied to every entry. -/
def Tab.map {n : Nat} {α β : Type} (f : α → β) (t : Tab n α) : Tab n β :=
  ⟨t.entries.map f, by rw [List.length_map]; exact t.size⟩

end Sys2Proof
end

