-- ==== Sys2Proof/Syntax.lean ====
section
/-! DEFINITION. The names of the part and its commands.

`Instr` has one constructor per row of spec/opcode_table.json.
The rows are of three kinds: requests that arrive in a slot of a control link (their head is `ReqHead`), frames and bus transactions, and events of the pins and timers.
-/
namespace Sys2Proof

/-! ## Names (00_scope.md, section 6) -/

/-- The three zones, in the order of the zone table (R1). -/
inductive ZoneId where
  | main | z2 | z3
  deriving DecidableEq, Repr

/-- The two SPI control links. -/
inductive Link where
  | s | n
  deriving DecidableEq, Repr

/-- The holders of a permission set (R190). -/
inductive Port where
  | s | n | k
  deriving DecidableEq, Repr

/-- The origin of a change (00_scope.md, section 6.4). -/
inductive Origin where
  | s | n | k | part
  deriving DecidableEq, Repr

/-- The eleven sources, in the order of their ids 1 to 11. -/
inductive Src where
  | din0 | din1 | din2 | din3 | mci | ana0 | ana1 | ana2 | ana3 | tuner | net
  deriving DecidableEq, Repr

/-- The six clocked inputs, each with a lock sequencer. -/
inductive Clocked where
  | din0 | din1 | din2 | din3 | mci | net
  deriving DecidableEq, Repr

/-- The kind of a source, fixed by its id (R28). -/
inductive SrcKind where
  | digital | multi | analog | tuner | network
  deriving DecidableEq, Repr

/-- The decode engines. -/
inductive EngineId where
  | de0 | de1
  deriving DecidableEq, Repr

/-- The analog converter pairs. -/
inductive PairId where
  | cv0 | cv1
  deriving DecidableEq, Repr

/-- The power stage packages. -/
inductive PkgId where
  | p0 | p1 | p2 | p3
  deriving DecidableEq, Repr

/-- The amplified channels. -/
inductive ChanId where
  | ac0 | ac1 | ac2 | ac3 | ac4 | ac5 | ac6 | ac7 | ac8 | ac9 | ac10
  deriving DecidableEq, Repr

/-- The line outputs. -/
inductive LineId where
  | sw1 | sw2 | z2l | z2r | z3l | z3r
  deriving DecidableEq, Repr

/-- The seventeen outputs (R69). -/
inductive OutId where
  | ac (c : ChanId)
  | line (l : LineId)
  deriving DecidableEq, Repr

/-- The fans. -/
inductive FanId where
  | f0 | f1
  deriving DecidableEq, Repr

/-- The six inputs of the Thermal and Load Monitor (R112). -/
inductive Sensor where
  | t0 | t1 | t2 | t3 | th | vr
  deriving DecidableEq, Repr

/-- The roles of a stream (00_scope.md, section 6.2). -/
inductive Role where
  | fl | fr | c | lfe | sl | sr | sbl | sbr | hl | hr
  deriving DecidableEq, Repr

/-- The roles an amplified channel may carry, in the order of their codes in an AMP_ASSIGN entry (R197). -/
inductive SpkRole where
  | fl | fr | c | sl | sr | sbl | sbr | hl | hr | l | r
  deriving DecidableEq, Repr

/-- The seven sample rates of the source table (R28). -/
inductive Rate where
  | r32 | r44 | r48 | r88 | r96 | r176 | r192
  deriving DecidableEq, Repr

/-- The two coded stream kinds (R39). -/
inductive CodedKind where
  | a | b
  deriving DecidableEq, Repr

/-- The tuner's bands (R144). -/
inductive Band where
  | fm | am
  deriving DecidableEq, Repr

/-- A set of stream roles. -/
structure RoleSet where
  fl : Bool
  fr : Bool
  c : Bool
  lfe : Bool
  sl : Bool
  sr : Bool
  sbl : Bool
  sbr : Bool
  hl : Bool
  hr : Bool
  deriving DecidableEq, Repr

/-- A set of zones. -/
structure ZoneSet where
  main : Bool
  z2 : Bool
  z3 : Bool
  deriving DecidableEq, Repr

/-- A set of temperature inputs: the associated sensor set of a fan (R133). -/
structure SensorSet where
  t0 : Bool
  t1 : Bool
  t2 : Bool
  t3 : Bool
  th : Bool
  deriving DecidableEq, Repr

/-- A set of packages. -/
structure PkgSet where
  p0 : Bool
  p1 : Bool
  p2 : Bool
  p3 : Bool
  deriving DecidableEq, Repr

/-- The twenty sticky flags, or a mask naming some of them (R126). -/
structure FlagSet where
  warnSeen : PkgSet
  tripSeen : PkgSet
  stageSilent : PkgSet
  ocSeen : PkgSet
  railLow : Bool
  railHigh : Bool
  fan0Stall : Bool
  fan1Stall : Bool
  deriving DecidableEq, Repr

/-- A permission set (R190), in the bit order of READ_LINK. -/
structure PermSet where
  zoneMain : Bool
  zone2 : Bool
  zone3 : Bool
  tuner : Bool
  config : Bool
  protectClear : Bool
  deriving DecidableEq, Repr

/-- A set of notice classes (R182), in the bit order of READ_LINK. -/
structure ClassSet where
  zone : Bool
  source : Bool
  tuner : Bool
  protect : Bool
  link : Bool
  deriving DecidableEq, Repr

/-- The set with no zone. -/
def ZoneSet.empty : ZoneSet := ⟨false, false, false⟩

/-- The set with no role. -/
def RoleSet.empty : RoleSet := ⟨false, false, false, false, false, false, false, false, false, false⟩

/-- The set with no package. -/
def PkgSet.empty : PkgSet := ⟨false, false, false, false⟩

/-- No sticky flag set. -/
def FlagSet.empty : FlagSet := ⟨.empty, .empty, .empty, .empty, false, false, false, false⟩

/-! ## Operands -/

/-- What LNK reads of every request slot beside its data (10_control_links.md, section 10.8).
The link it arrives on, the tag (byte 2), the zone or target (byte 3), the NOTIFY flag, and how many slots of the ring the request occupies. -/
structure ReqHead where
  link : Link
  tag : Byte
  target : Byte
  notify : Bool
  slots : Nat
  deriving DecidableEq, Repr

/-- ZONE_VOLUME carries an absolute volume or a signed relative step (R15). -/
inductive VolumeArg where
  | absolute (v : Int)
  | relative (step : Int)
  deriving DecidableEq, Repr

/-- ZONE_MUTE carries on, off or toggle (R16). -/
inductive MuteArg where
  | on | off | toggle
  deriving DecidableEq, Repr

/-- The codes a BASS_CONFIG carries (R63): a setting for each group, the crossover in Hz, the subwoofer enable. -/
structure BassArgs where
  front : Nat
  centre : Nat
  surround : Nat
  back : Nat
  height : Nat
  crossover : Nat
  sub : Bool
  deriving DecidableEq, Repr

/-- The codes a DOWNMIX_CONFIG carries (R65). -/
structure DownmixArgs where
  c : Nat
  s : Nat
  b : Nat
  h : Nat
  pad : Bool
  deriving DecidableEq, Repr

/-- One entry of an AMP_ASSIGN list (R101): a channel number and the codes of a zone and a role, or unassigned. -/
structure AssignEntry where
  channel : Nat
  target : Option (Nat × Nat)
  deriving DecidableEq, Repr

/-- The limits of R115, as PROT_LIMITS carries them and as TLM holds them. -/
structure Limits where
  pkgWarn : Nat
  pkgTrip : Nat
  pkgHyst : Nat
  hsWarn : Nat
  hsTrip : Nat
  hsHyst : Nat
  railLow : Nat
  railHigh : Nat
  railHyst : Nat
  tempN : Nat
  railN : Nat
  deriving DecidableEq, Repr

/-- What a PROT_CLEAR names (R128). -/
structure ClearArgs where
  flags : FlagSet
  channels : List ChanId
  packages : PkgSet
  deriving DecidableEq, Repr

/-- The settings of a fan record (R133), as FAN_CURVE carries them and as FNC holds them. -/
structure FanSettings where
  sensors : SensorSet
  t1 : Nat
  d1 : Nat
  t2 : Nat
  d2 : Nat
  t3 : Nat
  stopAllowed : Bool
  rampRate : Nat
  snapToZero : Bool
  spinUpTime : Nat
  spinUpReduction : Bool
  edges : Nat
  guard : Nat
  ignoreEdges : Bool
  slowMarking : Bool
  period : Nat
  tachLimit : Nat
  deriving DecidableEq, Repr

/-- One entry of a PRESET_UPLOAD (R159): an index, and empty or a band code, a frequency and an optional name. -/
structure UploadEntry where
  index : Nat
  content : Option (Nat × Nat × Option (List Byte))
  deriving DecidableEq, Repr

/-- One entry of a KEYMAP_LOAD (R201): an action code and its argument. -/
structure KeyEntryArg where
  action : Nat
  arg : Nat
  deriving DecidableEq, Repr

/-- How far a stalled frame had come (R184).
`header`: before the header was complete.
`readNotices arg shifted`: a READ_NOTICES of which `shifted` bytes had been shifted out after the frame status, with no event since its header.
`reading`: the READ_NOTICES whose header has been given as a command of its own.
`other`: any other frame, WRITE_SLOT included. -/
inductive StalledFrame where
  | header
  | readNotices (arg : Byte) (shifted : Nat)
  | reading
  | other
  deriving DecidableEq, Repr

/-- How much of a READ_NOTICES frame a command stands for (R193), so that the part's events can come between.
`whole shifted`: all of it, with `shifted` bytes of the answer shifted out after the frame status.
`header`: its header alone; `shift n`: `n` more bytes of the answer shifted out; `finish`: the end of chip-select. -/
inductive ReadPart where
  | whole (shifted : Nat)
  | header
  | shift (n : Nat)
  | finish
  deriving DecidableEq, Repr

/-- A frame on a classification lane, as SIU and an engine see it (R39, R54).
`kind` and `rate` are absent for an unknown kind and for a header rate outside the seven.
`received` counts the bytes received when the frame is judged.
`checkGood` is whether its data match the check value of its header.
`content` stands for the coded audio itself, whose coding the spec does not give. -/
structure FrameIn where
  kind : Option CodedKind
  declared : Nat
  received : Nat
  rate : Option Rate
  roles : RoleSet
  checkGood : Bool
  content : Nat
  deriving DecidableEq, Repr

/-- One sample for each stream role: what a source's receiver delivers in one sample period. -/
structure RoleSamples where
  fl : Int
  fr : Int
  c : Int
  lfe : Int
  sl : Int
  sr : Int
  sbl : Int
  sbr : Int
  hl : Int
  hr : Int
  deriving DecidableEq, Repr

/-- One sample of each of the six inputs of TLM (R113). -/
structure SensorSamples where
  t0 : Nat
  t1 : Nat
  t2 : Nat
  t3 : Nat
  th : Nat
  vr : Nat
  deriving DecidableEq, Repr

/-! ## Commands -/

/-- The commands of the part, in the order of spec/opcode_table.json. -/
inductive Instr where
  /-- POWER_ON_RESET (R2) -/
  | powerOnReset
  /-- ZONE_POWER_ON (R3) -/
  | zonePowerOn (h : ReqHead)
  /-- ZONE_POWER_STANDBY (R12) -/
  | zonePowerStandby (h : ReqHead)
  /-- ZONE_POWER_TOGGLE (R3) -/
  | zonePowerToggle (h : ReqHead)
  /-- ZONE_SOURCE (R7): a source id -/
  | zoneSource (h : ReqHead) (id : Nat)
  /-- ZONE_VOLUME (R15) -/
  | zoneVolume (h : ReqHead) (v : VolumeArg)
  /-- ZONE_MUTE (R16) -/
  | zoneMute (h : ReqHead) (m : MuteArg)
  /-- ZONE_SLEEP (R21): minutes -/
  | zoneSleep (h : ReqHead) (minutes : Nat)
  /-- ZONE_ANNOUNCE (R17): follow flag and minimum level -/
  | zoneAnnounce (h : ReqHead) (follow : Bool) (level : Int)
  /-- ZONE_QUERY (R20): a page -/
  | zoneQuery (h : ReqHead) (page : Nat)
  /-- ZONE_LIMITS (R18): ceiling, ramp rate, snap-on-mute -/
  | zoneLimits (h : ReqHead) (ceiling : Int) (ramp : Nat) (snap : Bool)
  /-- ZONE_SOURCE_RING (R19): source ids -/
  | zoneSourceRing (h : ReqHead) (ids : List Nat)
  /-- SOURCE_TRIM (R44): a trim in hdB -/
  | sourceTrim (h : ReqHead) (trim : Int)
  /-- SOURCE_QUERY (R45): a page -/
  | sourceQuery (h : ReqHead) (page : Nat)
  /-- MAIN_MODE (R59): the code of a listening mode -/
  | mainMode (h : ReqHead) (mode : Nat)
  /-- DIALOGUE (R60): the dialogue lift -/
  | dialogue (h : ReqHead) (lift : Int)
  /-- BASS_CONFIG (R63) -/
  | bassConfig (h : ReqHead) (a : BassArgs)
  /-- DOWNMIX_CONFIG (R65) -/
  | downmixConfig (h : ReqHead) (a : DownmixArgs)
  /-- ENGINE_QUERY (R66): a page -/
  | engineQuery (h : ReqHead) (page : Nat)
  /-- CHANNEL_TRIM (R74): a trim in hdB -/
  | channelTrim (h : ReqHead) (trim : Int)
  /-- LEVEL_QUERY (R84): a page -/
  | levelQuery (h : ReqHead) (page : Nat)
  /-- AMP_ASSIGN (R101) -/
  | ampAssign (h : ReqHead) (list : List AssignEntry)
  /-- LINE_CHECK (R105) -/
  | lineCheck (h : ReqHead)
  /-- AMP_QUERY (R108): a page -/
  | ampQuery (h : ReqHead) (page : Nat)
  /-- PROT_LIMITS (R116) -/
  | protLimits (h : ReqHead) (a : Limits)
  /-- CLIP_GUARD (R125): a clip limit -/
  | clipGuard (h : ReqHead) (limit : Nat)
  /-- PROT_LOCK (R129) -/
  | protLock (h : ReqHead)
  /-- PROT_CLEAR (R128) -/
  | protClear (h : ReqHead) (a : ClearArgs)
  /-- PROT_QUERY (R130): a page -/
  | protQuery (h : ReqHead) (page : Nat)
  /-- FAN_CURVE (R140) -/
  | fanCurve (h : ReqHead) (a : FanSettings)
  /-- FAN_QUERY (R141): a page -/
  | fanQuery (h : ReqHead) (page : Nat)
  /-- TUNER_TUNE (R148): a band code and a channel -/
  | tunerTune (h : ReqHead) (band channel : Nat)
  /-- TUNER_SEEK (R150): a direction code, 0 UP or 1 DOWN -/
  | tunerSeek (h : ReqHead) (dir : Nat)
  /-- TUNER_SCAN (R152): a band code, a first and a last channel, the force flag -/
  | tunerScan (h : ReqHead) (band first last : Nat) (force : Bool)
  /-- TUNER_STOP (R156) -/
  | tunerStop (h : ReqHead)
  /-- PRESET_STORE (R157); the index is the target -/
  | presetStore (h : ReqHead)
  /-- PRESET_RECALL (R158); the index is the target -/
  | presetRecall (h : ReqHead)
  /-- PRESET_READ (R159); the index is the target -/
  | presetRead (h : ReqHead) (page : Nat)
  /-- PRESET_UPLOAD (R159) -/
  | presetUpload (h : ReqHead) (list : List UploadEntry)
  /-- STATION_READ (R155): a page and an index -/
  | stationRead (h : ReqHead) (page index : Nat)
  /-- TUNER_QUERY (R165): a page -/
  | tunerQuery (h : ReqHead) (page : Nat)
  /-- TUNER_REGION (R162): the FM step and the AM spacing in kHz -/
  | tunerRegion (h : ReqHead) (step raster : Nat)
  /-- TUNER_THRESHOLDS (R163): the seek margin and the AF margin -/
  | tunerThresholds (h : ReqHead) (margin afMargin : Nat)
  /-- ANNOUNCE_FILTER (R175): home code or none, class mask, accept-all flag -/
  | announceFilter (h : ReqHead) (home : Option (BitVec 16)) (mask : BitVec 32) (acceptAll : Bool)
  /-- STATION_DATA_QUERY (R180): a page -/
  | stationDataQuery (h : ReqHead) (page : Nat)
  /-- LINK_PERMIT (R190): a code naming N (0) or K (1), and a permission set -/
  | linkPermit (h : ReqHead) (who : Nat) (perms : PermSet)
  /-- NOTICE_MASK (R192) -/
  | noticeMask (h : ReqHead) (classes : ClassSet) (attention : Bool)
  /-- SOFT_RESET (R195) -/
  | softReset (h : ReqHead)
  /-- SOFT_RESET_DONE (R195) -/
  | softResetDone
  /-- KEYPAD_BIND (R200): a keypad id and a zone code -/
  | keypadBind (h : ReqHead) (keypad zone : Nat)
  /-- KEYMAP_LOAD (R201): a start index, the entry count and the entries -/
  | keymapLoad (h : ReqHead) (start count : Nat) (list : List KeyEntryArg)
  /-- KEYPAD_QUERY (R204): a page -/
  | keypadQuery (h : ReqHead) (page : Nat)
  /-- UNKNOWN_REQUEST_KIND (R186): a slot whose kind byte names no request -/
  | unknownRequestKind (h : ReqHead) (kind : Byte)
  /-- CONTINUATION (R189): a continuation slot on its own at the take pointer -/
  | continuation (h : ReqHead)
  /-- WRITE_SLOT (R185): the argument byte, the record bytes that arrived before chip-select ended, and whether the slot was part-owned at the header -/
  | writeSlot (l : Link) (arg : Byte) (bytes : List Byte) (busyAtHeader : Bool)
  /-- READ_SLOT (R185): the argument byte -/
  | readSlot (l : Link) (arg : Byte)
  /-- READ_NOTICES (R193): the argument byte and how much of the frame -/
  | readNotices (l : Link) (arg : Byte) (part : ReadPart)
  /-- READ_LINK (R193): the argument byte -/
  | readLink (l : Link) (arg : Byte)
  /-- LINK_RESET (R194): the argument byte -/
  | linkReset (l : Link) (arg : Byte)
  /-- BAD_FRAME (R183): a frame code and argument -/
  | badFrame (l : Link) (code arg : Byte)
  /-- FRAME_TRUNCATED (R183) -/
  | frameTruncated (l : Link)
  /-- FRAME_STALL (R184) -/
  | frameStall (l : Link) (f : StalledFrame)
  /-- KEY_MESSAGE (R199): the two bytes of a key message -/
  | keyMessage (b0 b1 : Byte)
  /-- SELECT (R200): the byte of a SELECT message -/
  | select (b0 : Byte)
  /-- MALFORMED_KEYPAD_WRITE (R198): the bytes written -/
  | malformedKeypadWrite (bytes : List Byte)
  /-- READBACK_READ (R198): how many bytes the keypad reads -/
  | readbackRead (count : Nat)
  /-- KEY_PRESS (R202) -/
  | keyPress
  /-- KEY_REPEAT (R203) -/
  | keyRepeat
  /-- KEY_RELEASE (R203) -/
  | keyRelease
  /-- SLEEP_MINUTE (R22) -/
  | sleepMinute (z : ZoneId)
  /-- SLEEP_EXPIRY (R22) -/
  | sleepExpiry (z : ZoneId)
  /-- RAMP_STEP (R75) -/
  | rampStep
  /-- DRAIN_END (R10) -/
  | drainEnd (z : ZoneId)
  /-- CHANNEL_FLOOR_IDLE (R91) -/
  | channelFloorIdle (c : ChanId)
  /-- REASSIGNMENT_SWAP (R103) -/
  | reassignmentSwap
  /-- LOCK_ACHIEVED (R33): the rate the receiver measured, in Hz -/
  | lockAchieved (c : Clocked) (hz : Nat)
  /-- ATTEMPT_WINDOW_EXPIRY (R34) -/
  | attemptWindowExpiry (c : Clocked)
  /-- BACKOFF_EXPIRY (R34) -/
  | backoffExpiry (c : Clocked)
  /-- LOCK_LOST (R36) -/
  | lockLost (c : Clocked)
  /-- ACTIVITY_DETECTOR_ARM (R35) -/
  | activityDetectorArm (c : Clocked)
  /-- ACTIVITY (R35) -/
  | activity (c : Clocked)
  /-- SYNC_TIMER_EXPIRY (R37) -/
  | syncTimerExpiry (c : Clocked)
  /-- LANE_TIMER_EXPIRY (R38) -/
  | laneTimerExpiry
  /-- CODED_FRAME (R39) -/
  | codedFrame (c : Clocked) (f : FrameIn)
  /-- LOAD_END (R50) -/
  | loadEnd (e : EngineId)
  /-- CLIP_WINDOW_END (R124) -/
  | clipWindowEnd (z : ZoneId)
  /-- SAMPLING_TIMER (R113): the six samples -/
  | samplingTimer (x : SensorSamples)
  /-- READING_UPDATE (R113) -/
  | readingUpdate (i : Sensor)
  /-- DERATE_STEP (R121) -/
  | derateStep (p : PkgId)
  /-- READY_ASSERTED (R92) -/
  | readyAsserted (p : PkgId)
  /-- READY_WINDOW_EXPIRY (R93) -/
  | readyWindowExpiry (p : PkgId)
  /-- PACKAGE_RETRY_EXPIRY (R93) -/
  | packageRetryExpiry (p : PkgId)
  /-- READY_LOST (R94) -/
  | readyLost (p : PkgId)
  /-- OVERCURRENT (R96): microseconds since the test step of a running line check -/
  | overcurrent (c : ChanId) (elapsed : Nat)
  /-- CHANNEL_RETRY_EXPIRY (R97) -/
  | channelRetryExpiry (c : ChanId)
  /-- OVERCURRENT_FREE_RUN (R97) -/
  | overcurrentFreeRun (c : ChanId)
  /-- LINE_CHECK_CROSSING (R106): microseconds since the test step -/
  | lineCheckCrossing (elapsed : Nat)
  /-- LINE_CHECK_COUNTER_FULL (R106) -/
  | lineCheckCounterFull
  /-- DUTY_STEP (R135) -/
  | dutyStep
  /-- SPIN_UP_EXPIRY (R136) -/
  | spinUpExpiry (f : FanId)
  /-- TACH_UPDATE (R138) -/
  | tachUpdate (f : FanId)
  /-- TACH_EDGE (R137): counter periods since the last counted edge of the measurement -/
  | tachEdge (f : FanId) (periods : Nat)
  /-- GUARD_END (R137) -/
  | guardEnd (f : FanId)
  /-- TACH_COUNT_LIMIT (R137) -/
  | tachCountLimit (f : FanId)
  /-- DWELL_END (R147): the measured quality and whether an FM stereo pilot was found -/
  | dwellEnd (quality : Nat) (pilot : Bool)
  /-- QUALITY_MONITOR (R147): the measured quality and whether an FM stereo pilot was found -/
  | qualityMonitor (quality : Nat) (pilot : Bool)
  /-- WEAK_SIGNAL_EXPIRY (R160) -/
  | weakSignalExpiry
  /-- SUBCARRIER_WORD (R170): the next 24 bits of the subcarrier stream -/
  | subcarrierWord (w : BitVec 24)
  /-- ANNOUNCE_HOLD_EXPIRY (R177) -/
  | announceHoldExpiry
  /-- SAMPLE_PERIOD (R79): a source and the PCM samples its receiver delivers -/
  | samplePeriod (src : Src) (x : RoleSamples)
  /-- LANE_ACTIVITY (R38): an MCI lane starts or stops showing transitions -/
  | laneActivity (lane : Fin 4) (on : Bool)
  deriving DecidableEq, Repr

end Sys2Proof
end

