-- ==== Sys2Proof/Decode.lean ====
section
/-! DEFINITION. The command a table word spells.

No row of spec/opcode_table.json gives bits: a command is not read from a word, so no word spells one.
The coding of a request in a slot, which section 10.8 and R197 do give, is read by `Machine.decodeSlots`.
-/
namespace Sys2Proof

/-- The command that a word spells by the table's bits: none, since the table gives none. -/
def decodeTableWord (_nbits _w : Nat) : Option Instr := none

end Sys2Proof
end

