-- ==== Sys2Proof/Config.lean ====
section
/-! DEFINITION. What the spec leaves open, as constants with no body.

Nothing in Lean can evaluate them, so a statement that holds, holds whatever they are.
-/
namespace Sys2Proof.Config

/-- The order in which two hand-overs of one event are taken, where the spec says either may come first (R41, R46, R164, R179, R186, section 3.3).
The argument is State's counter of such choices. -/
opaque order : Nat → Bool

/-- The sample a decode engine forms for a role from a coded frame: kind, content, role and sample index.
The spec names the two coded kinds and gives no coding (R39, R54). -/
opaque codecSample : CodedKind → Nat → Role → Nat → BitVec 24

/-- The mono sum the tuner delivers on both sides while its stereo flag is false, from what the receiver gives left and right.
R147 names the sum and gives no scale. -/
opaque monoSum : BitVec 24 → BitVec 24 → BitVec 24

end Sys2Proof.Config
end

