-- ==== Sys2Proof/Machine/State.lean ====
section
/-! DEFINITION. The state of the part, block by block, and its value after power-on reset.

Each record names the rule of spec/ that gives it.
Fields that are the model's own, and not the spec's, say so.
-/
namespace Sys2Proof.Machine

/-! ## Status codes and results (section 6.5) -/

/-- The status codes, in the order of their numbers in a result slot (section 10.8). -/
inductive Status where
  | ok | clamped | busy | noPermission | badKind | badZone | badArgument | notAvailable
  | tunerInUse | locked | chainShort | chainLong | aborted | noneFound
  deriving DecidableEq, Repr

/-! ## Zone Controller (R1) -/

inductive Power where
  | on | standby
  deriving DecidableEq, Repr

inductive ZoneState where
  | standby | switching | acquiring | playing
  deriving DecidableEq, Repr

inductive WaitReason where
  | lock | lost | format | tuner | converter | decoder
  deriving DecidableEq, Repr

/-- MAIN's listening modes (R57). -/
inductive ListenMode where
  | direct | stereo | multi | upmix
  deriving DecidableEq, Repr

/-- A loaded sleep timer (R21, R22). -/
structure Sleep where
  minutes : Nat
  prescaler : Nat
  deriving DecidableEq, Repr

/-- A zone record (R1), less the two fields of MAIN alone, which stand in `ZoneTable`. -/
structure ZoneRec where
  power : Power
  state : ZoneState
  source : Src
  pending : Option Src
  standbyFlag : Bool
  switchOrigin : Option Origin
  wait : Option WaitReason
  volume : Int
  mute : Bool
  ceiling : Int
  ramp : Nat
  snapOnMute : Bool
  sleep : Option Sleep
  follow : Bool
  minLevel : Int
  saved : Option Src
  engine : Option EngineId
  pair : Option PairId
  ring : List Src
  lastOrigin : Origin
  deriving DecidableEq, Repr

/-- What ZC holds: the zone table, MAIN's listening mode and dialogue lift D, and the converter wait list.
`floorReport` is the latest floor report of LVU (R78): the zones whose drain ZC has still to end. -/
structure ZoneTable where
  zones : Tab 3 ZoneRec
  mode : ListenMode
  lift : Int
  convWait : List ZoneId
  floorReport : ZoneSet
  deriving DecidableEq, Repr

/-! ## Source Interface Unit (R28) -/

inductive LockState where
  | absent | seeking | locked | backoff | lost
  deriving DecidableEq, Repr

inductive Format where
  | none | pcm2 | pcmm | codedA | codedB
  deriving DecidableEq, Repr

/-- A frame run (R28, R40): its count, and its kind and rate while the count is not 0. -/
structure FrameRun where
  count : Nat
  stream : Option (CodedKind × Rate)
  deriving DecidableEq, Repr

/-- A source record (R28), with the timers of its sequencer and of its classification (R33 to R38).
`seqTimer`: what is left of the attempt window or of the backoff wait.
`syncTimer`, `laneTimer`: what is left of the 64 ms of each, absent while it does not run.
`quiet`, `armed`: the activity detector's time without a transition, and whether it is armed (R35).
`silenced`: silence stands in place of PCM samples while a frame run is being built (R41). -/
structure SourceRec where
  lock : LockState
  attempts : Nat
  format : Format
  channels : Option Nat
  rate : Option Rate
  ifRate : Option Rate
  shortFrames : Nat
  run : FrameRun
  trim : Int
  listeners : ZoneSet
  engine : Option EngineId
  pair : Option PairId
  seqTimer : Option Nat
  syncTimer : Option Nat
  laneTimer : Option Nat
  quiet : Nat
  armed : Bool
  silenced : Bool
  deriving DecidableEq, Repr

/-- What SIU holds: the source table, and which MCI data lanes show transitions (R38). -/
structure SourceTable where
  sources : Tab 11 SourceRec
  lanes : Tab 4 Bool
  deriving DecidableEq, Repr

/-! ## Decode Engines (R48) -/

inductive EngineState where
  | free | loading | running
  deriving DecidableEq, Repr

inductive EngineMode where
  | decode | upmix
  deriving DecidableEq, Repr

/-- The formats an engine can be loaded for (R48). -/
inductive EngineFormat where
  | codedA | codedB | pcm2
  deriving DecidableEq, Repr

/-- A good frame, kept to be repeated (R55). -/
structure GoodFrame where
  kind : CodedKind
  content : Nat
  roles : RoleSet
  deriving DecidableEq, Repr

/-- A stretch of samples an engine has still to deliver: a decoded frame, or silence for a role set (R54, R55). -/
structure Segment where
  frame : Option (CodedKind × Nat)
  roles : RoleSet
  pos : Nat
  len : Nat
  deriving DecidableEq, Repr

/-- An engine record (R48).
`delivery` is the model's own: the samples formed and not yet delivered, oldest first. -/
structure EngineRec where
  state : EngineState
  bound : Option Src
  mode : EngineMode
  loaded : Option (EngineFormat × Rate)
  consumers : ZoneSet
  roles : RoleSet
  frameErrors : Nat
  errorRun : Nat
  lastGood : Option GoodFrame
  loadTime : Option Nat
  delivery : List Segment
  deriving DecidableEq, Repr

structure EngineTable where
  engines : Tab 2 EngineRec
  wait : List ZoneId
  deriving DecidableEq, Repr

/-! ## Channel Mapper (R61 to R67) -/

inductive GroupSize where
  | large | small
  deriving DecidableEq, Repr

/-- The five downmix coefficients (R65), in the order of their codes. -/
inductive Coef where
  | db0 | db3 | db45 | db6 | off
  deriving DecidableEq, Repr

/-- The main layout (R61). -/
structure Layout where
  fl : Bool
  fr : Bool
  c : Bool
  sl : Bool
  sr : Bool
  sbl : Bool
  sbr : Bool
  hl : Bool
  hr : Bool
  sw : Bool
  deriving DecidableEq, Repr

/-- One second-order filter section's past samples (R62). -/
structure Section where
  x1 : Int
  x2 : Int
  y1 : Int
  y2 : Int
  deriving DecidableEq, Repr

/-- The four sections of one main role: two in cascade for each filter (R62). -/
structure RoleFilter where
  high1 : Section
  high2 : Section
  low1 : Section
  low2 : Section
  deriving DecidableEq, Repr

/-- The settings of CMAP (R67) and the section states of bass management, in the order FL, FR, C, SL, SR, SBL, SBR, HL, HR. -/
structure Mapper where
  layout : Layout
  front : GroupSize
  centre : GroupSize
  surround : GroupSize
  back : GroupSize
  height : GroupSize
  crossover : Nat
  sub : Bool
  cCoef : Coef
  sCoef : Coef
  bCoef : Coef
  hCoef : Coef
  pad : Bool
  filters : Tab 9 RoleFilter
  deriving DecidableEq, Repr

/-! ## Level Unit (R69) -/

/-- A level record (R69), less the line trim, which stands in `LevelTable`. -/
structure LevelRec where
  target : Int
  level : Int
  gain : Nat
  clips : Nat
  clipFlag : Bool
  deriving DecidableEq, Repr

/-- The level records, the line trims, the ramp timer and the output samples.
`samples` holds the sample each output's PWM modulator or DAC was last given (R79); it is a pin, not a field of R69. -/
structure LevelTable where
  levels : Tab 17 LevelRec
  lineTrims : Tab 6 Int
  rampTimer : Nat
  samples : Tab 17 Int
  deriving DecidableEq, Repr

/-! ## Amplifier Channel Controller (R88, R89) -/

inductive ChanState where
  | idle | enabling | active | draining | fault | latched | testing
  deriving DecidableEq, Repr

inductive FaultCause where
  | overcurrent | thermal | rail
  deriving DecidableEq, Repr

inductive Verdict where
  | short | loaded | open
  deriving DecidableEq, Repr

/-- The (zone, role) a channel carries (R87). -/
structure Assign where
  zone : ZoneId
  role : SpkRole
  deriving DecidableEq, Repr

/-- A channel record (R88). -/
structure ChanRec where
  assign : Option Assign
  state : ChanState
  cause : Option FaultCause
  retries : Nat
  retryWait : Option Nat
  freeRun : Nat
  trim : Int
  changing : Bool
  lastCheck : Option (Nat × Verdict)
  deriving DecidableEq, Repr

inductive PkgPower where
  | off | enabling | on | retryWait | latched
  deriving DecidableEq, Repr

/-- The hold set of a package (R89). -/
structure HoldSet where
  thermal : Bool
  rail : Bool
  deriving DecidableEq, Repr

/-- A package power record (R89). -/
structure PkgRec where
  power : PkgPower
  misses : Nat
  timer : Option Nat
  holds : HoldSet
  deriving DecidableEq, Repr

/-- The slot a long request completes in (R187): where it stands, the link's reset generation at its take, and what its result echoes. -/
structure Ticket where
  link : Link
  slot : Fin 8
  slots : Nat
  gen : Fin 256
  kind : Byte
  tag : Byte
  target : Byte
  notify : Bool
  deriving DecidableEq, Repr

/-- The reassignment in flight (section 5.6): the resulting assignment and the slot to complete. -/
structure Reassign where
  result : Tab 11 (Option Assign)
  ticket : Ticket
  deriving DecidableEq, Repr

/-- The line check in flight (section 5.7): the channel, the 10-bit counter as it started once the test step is applied, and the slot to complete. -/
structure LineCheck where
  channel : ChanId
  counter : Option Nat
  ticket : Ticket
  deriving DecidableEq, Repr

/-- What ACC holds.
`ready` is the level of the READY inputs, as the pins last showed it.
`floorReport` marks the channels of LVU's latest floor report (R78) that ACC has not yet acted on. -/
structure AmpTable where
  channels : Tab 11 ChanRec
  packages : Tab 4 PkgRec
  ready : Tab 4 Bool
  reassign : Option Reassign
  check : Option LineCheck
  floorReport : Tab 11 Bool
  deriving DecidableEq, Repr

/-! ## Thermal and Load Monitor (R112 to R126) -/

/-- A measurement record (R112).
`due` is a reading formed and not yet taken: the average of a full set of samples, which READING_UPDATE makes the reading. -/
structure Meas where
  sum : Nat
  count : Nat
  reading : Nat
  valid : Bool
  due : Option Nat
  deriving DecidableEq, Repr

inductive Heat where
  | normal | warm | hot
  deriving DecidableEq, Repr

/-- A package thermal record (R117). -/
structure Thermal where
  heat : Heat
  derate : Int
  timer : Nat
  deriving DecidableEq, Repr

/-- A zone's clip guard record (R123). -/
structure ClipGuard where
  guard : Int
  limit : Nat
  quiet : Nat
  pos : Nat
  deriving DecidableEq, Repr

structure Monitor where
  meas : Tab 6 Meas
  limits : Limits
  lock : Bool
  thermal : Tab 4 Thermal
  hsWarm : Bool
  hsTrip : Bool
  railLow : Bool
  railHigh : Bool
  guards : Tab 3 ClipGuard
  flags : FlagSet
  samplingTimer : Nat
  deriving DecidableEq, Repr

/-! ## Fan Controller (R133, R137) -/

/-- A tach measurement in progress (R137).
`hold`: the PWM output is held fully on.
`guardLeft`: what is left of the guard, absent once edges count.
`skip`: the edges still to be discarded.
`edges`, `count`: the edges counted, and the count at the last of them. -/
structure TachMeas where
  hold : Bool
  guardLeft : Option Nat
  skip : Nat
  edges : Nat
  count : Nat
  deriving DecidableEq, Repr

/-- A fan record (R133), the measurement in progress and what the measurements of the present update period came to.
`done`: the count of a completed measurement; `partialEdges`: the most edges an incomplete one counted. -/
structure FanRec where
  set : FanSettings
  target : Nat
  current : Nat
  spinUp : Option Nat
  reading : Nat
  stallRun : Nat
  stalled : Bool
  meas : Option TachMeas
  done : Option Nat
  partialEdges : Nat
  tachTimer : Nat
  deriving DecidableEq, Repr

structure FanTable where
  fans : Tab 2 FanRec
  dutyTimer : Nat
  deriving DecidableEq, Repr

/-! ## Tuner (R145, R154, R157) -/

inductive TunerState where
  | idle | tuning | seeking | scanning | afCheck
  deriving DecidableEq, Repr

/-- A dwell in progress (R147): cold or hot, the time left, and whether it is the return dwell of its operation. -/
structure Dwell where
  cold : Bool
  left : Nat
  back : Bool
  deriving DecidableEq, Repr

/-- A scan's range (R145). -/
structure ScanRange where
  band : Band
  first : Nat
  last : Nat
  next : Nat
  found : Nat
  inserted : Nat
  deriving DecidableEq, Repr

/-- An AF check's record (R161). -/
structure AfRecord where
  code : BitVec 16
  q0 : Nat
  list : List Nat
  pos : Nat
  deriving DecidableEq, Repr

/-- A station list entry (R154). -/
structure Station where
  band : Band
  channel : Nat
  quality : Nat
  code : Option (BitVec 16)
  name : Option (List Byte)
  deriving DecidableEq, Repr

/-- A preset that is not empty (R157): 10 kHz units on FM, kHz on AM. -/
structure Preset where
  band : Band
  freq : Nat
  name : Option (List Byte)
  deriving DecidableEq, Repr

/-- The tuner record (R145), the station list, the preset table, and what an operation in progress carries.
`stopping`: the TUNING in progress follows a TUNER_STOP (R164).
`seekUp`, `visited`: a seek's direction and how many channels it has visited (R150).
`ticket`: the slot of a tune, seek or scan in progress.
`monitor`: time to the next quality measurement in IDLE (R147). -/
structure TunerRec where
  band : Band
  channel : Nat
  state : TunerState
  quality : Nat
  stereo : Bool
  opOrigin : Option Origin
  dwell : Option Dwell
  start : Option Nat
  ret : Option (Band × Nat)
  scan : Option ScanRange
  af : Option AfRecord
  baseFm : Nat
  baseAm : Nat
  step : Nat
  raster : Nat
  margin : Nat
  afMargin : Nat
  weak : Option Nat
  lastPreset : Option (Fin 40)
  stations : List Station
  presets : Tab 40 (Option Preset)
  stopping : Bool
  seekUp : Bool
  visited : Nat
  ticket : Option Ticket
  monitor : Nat
  deriving DecidableEq, Repr

/-! ## Station Data Decoder (R168, R175, R176) -/

inductive SyncState where
  | search | synced
  deriving DecidableEq, Repr

/-- The positions of a group (R167). -/
inductive WordPos where
  | a | b | c | d
  deriving DecidableEq, Repr

/-- A name segment's record (R168): two characters each. -/
structure Segments where
  candidate : Option (Byte × Byte)
  confirmed : Option (Byte × Byte)
  deriving DecidableEq, Repr

/-- The station data (R168). -/
structure StationData where
  code : Option (BitVec 16)
  cls : Option Nat
  traffic : Bool
  announcement : Bool
  segments : Tab 4 Segments
  name : Option (List Byte)
  afList : List Nat
  deriving DecidableEq, Repr

inductive AnnState where
  | inactive | active | ending
  deriving DecidableEq, Repr

/-- The announcement record (R176). -/
structure Announcement where
  state : AnnState
  time : Option Nat
  cls : Option Nat
  code : Option (BitVec 16)
  hold : Option Nat
  taken : ZoneSet
  deriving DecidableEq, Repr

/-- The announcement filter (R175). -/
structure AnnFilter where
  home : Option (BitVec 16)
  mask : BitVec 32
  acceptAll : Bool
  deriving DecidableEq, Repr

/-- What SDD holds.
`window`: the outcomes of the most recent words, oldest first, true for a good one.
`bits`: bits of the stream received and not yet read as words, oldest first.
`run`: in SEARCH, the positions of the words of the run in progress (the run's bits are the first of `bits`).
`pos`: in SYNCED, the position of the next word.
`group`: the data of the good words of the group in progress, absent once the group is discarded. -/
structure StationDecoder where
  sync : SyncState
  window : List Bool
  data : StationData
  badWords : Nat
  otherGroups : Nat
  bits : List Bool
  pos : WordPos
  group : Option (List (BitVec 16))
  filter : AnnFilter
  ann : Announcement
  deriving DecidableEq, Repr

/-! ## Link Interface (R182) -/

inductive Phase where
  | free | queued | inFlight | done
  deriving DecidableEq, Repr

structure Slot where
  phase : Phase
  record : List Byte
  deriving DecidableEq, Repr

inductive FrameOutcome where
  | none | accepted | slotBusy | badFrame | truncated | stalled
  deriving DecidableEq, Repr

/-- The operation a TUNED notice reports (R164). -/
inductive TunedOp where
  | tune | seek | scan | afCheck | stop
  deriving DecidableEq, Repr

/-- The cause an ANNOUNCE_END notice carries (R179). -/
inductive AnnCause where
  | holdExpired | retune
  deriving DecidableEq, Repr

/-- The flags of R126, in the order of its table. -/
inductive FlagId where
  | warnSeen (p : PkgId) | tripSeen (p : PkgId) | stageSilent (p : PkgId) | ocSeen (p : PkgId)
  | railLow | railHigh | fan0Stall | fan1Stall
  deriving DecidableEq, Repr

/-- What a notice reports: the kinds of R26, R46, R164, R179, R109, R126, R187, R195, R199 and R203. -/
inductive NoticeBody where
  | zoneState (z : ZoneId) (st : ZoneState) (reason : Option WaitReason)
  | zoneWait (z : ZoneId) (reason : Option WaitReason)
  | zoneSource (z : ZoneId) (src : Src)
  | zoneVolume (z : ZoneId) (v : Int)
  | zoneMute (z : ZoneId) (m : Bool)
  | zoneSleep (z : ZoneId) (minutes : Nat) (expired : Bool)
  | srcLockLost (src : Src) (rate : Option Rate)
  | srcLost (src : Src) (attempts : Nat)
  | srcFormat (src : Src) (f : Format) (channels : Option Nat) (rate : Option Rate) (broken : Bool)
  | tuned (band : Band) (channel quality : Nat) (op : TunedOp) (st : Status) (changed : Bool)
  | region (step raster : Nat)
  | stationName (code : Option (BitVec 16)) (chars : List Byte)
  | announceStart (cls : Nat) (code : BitVec 16) (taken : ZoneSet)
  | announceEnd (cause : AnnCause) (taken : ZoneSet)
  | channelLatched (c : ChanId) (retries : Nat)
  | packageLatched (p : PkgId) (misses : Nat)
  | lineCheck (c : ChanId) (count : Nat) (v : Verdict)
  | flagSet (f : FlagId)
  | requestDone (slot : Fin 8) (kind tag : Byte) (st : Status)
  | resetDone
  | keypadOverrun (keypad code : Nat)
  | keyStuck (keypad code : Nat)
  deriving DecidableEq, Repr

/-- A notice in a link's queue: what it reports, its origin, and the sequence number the link gave it (R191). -/
structure Notice where
  body : NoticeBody
  origin : Origin
  seq : Fin 256
  deriving DecidableEq, Repr

/-- A READ_NOTICES frame under way (R184, R193): how many notices it sends, how many bytes of its answer are shifted out, the answer as fixed at the header, and the milliseconds left of its stall timer. -/
structure NoticeRead where
  sent : Nat
  shifted : Nat
  answer : List Byte
  stall : Nat
  deriving DecidableEq, Repr

/-- A link record (R182).
`dataOut` is what the data-out line sent in the link's last frame; it is a pin, not a field of R182.
`reading` is the READ_NOTICES frame under way with its stall timer, if its header has come as a command of its own; no other frame is under way between two commands. -/
structure LinkRec where
  slots : Tab 8 Slot
  take : Fin 8
  queue : List Notice
  overrun : Bool
  seq : Fin 256
  mask : ClassSet
  attention : Bool
  gen : Fin 256
  lastFrame : FrameOutcome
  dataOut : List Byte
  reading : Option NoticeRead
  deriving DecidableEq, Repr

/-- What LNK holds.
`resetting` is the slot of a SOFT_RESET that has been taken and is not done: taking is stopped while it is present (R195). -/
structure LinkTable where
  links : Tab 2 LinkRec
  perms : Tab 3 PermSet
  resetting : Option Ticket
  deriving DecidableEq, Repr

/-! ## Keypad Port (chapter 11) -/

/-- An occupied receive buffer entry (R199): the message and its place in the order of arrival. -/
structure RxEntry where
  b0 : Byte
  b1 : Byte
  arrival : Nat
  deriving DecidableEq, Repr

/-- The seven actions of the key map (R202). -/
inductive Action where
  | none | volUp | volDown | muteToggle | powerToggle | sourceNext | presetNext
  deriving DecidableEq, Repr

structure KeyEntry where
  action : Action
  arg : Nat
  deriving DecidableEq, Repr

/-- A keypad's key record (chapter 11).
`pressed` is the part's millisecond count at the press. -/
structure KeyRec where
  current : Option Nat
  pressed : Nat
  stuck : Bool
  deriving DecidableEq, Repr

/-- What KPP holds.
`arrivals` counts key messages received, to order RX0 and RX1; `readOut` is what the last I2C read returned. -/
structure Keypads where
  rx0 : Option RxEntry
  rx1 : Option RxEntry
  arrivals : Nat
  overflow : Bool
  ignored : Nat
  binding : Tab 8 ZoneId
  keymap : Tab 64 KeyEntry
  keys : Tab 8 KeyRec
  readback : ZoneId
  readOut : List Byte
  deriving DecidableEq, Repr

/-! ## The part -/

/-- The whole part.
`now` counts the milliseconds that have passed and `choices` the orders taken from `Config.order`; both are the model's own.
`pending` is the queue of commands still to come, first in, first out. -/
structure State where
  zc : ZoneTable
  siu : SourceTable
  de : EngineTable
  cmap : Mapper
  lvu : LevelTable
  acc : AmpTable
  tlm : Monitor
  fnc : FanTable
  tun : TunerRec
  sdd : StationDecoder
  lnk : LinkTable
  kpp : Keypads
  now : Nat
  choices : Nat
  pending : List Instr
  deriving DecidableEq, Repr

/-- Why the machine stops with a fault.
The spec names no event that stops the part, so there is none: no command of this model ends in a fault (safe). -/
inductive Fault where
  deriving DecidableEq, Repr

/-- Why a command is refused. -/
inductive Refusal where
  /-- Raised by `exec` alone, for a command whose meaning has not been written; safe. -/
  | notModelled (mnemonic : String)
  deriving DecidableEq, Repr

/-! ## Power-on reset -/

/-- A zone record after power-on reset (R2), given its source and ceiling. -/
def ZoneRec.reset (src : Src) (ceiling : Int) : ZoneRec where
  power := .standby
  state := .standby
  source := src
  pending := none
  standbyFlag := false
  switchOrigin := none
  wait := none
  volume := -60
  mute := false
  ceiling := ceiling
  ramp := 2
  snapOnMute := false
  sleep := none
  follow := false
  minLevel := -40
  saved := none
  engine := none
  pair := none
  ring := [.din0, .din1, .din2, .din3, .mci, .ana0, .ana1, .ana2, .ana3, .tuner, .net]
  lastOrigin := .part

def ZoneTable.reset : ZoneTable where
  zones := ⟨[.reset .mci 36, .reset .net 12, .reset .tuner 12], rfl⟩
  mode := .multi
  lift := 0
  convWait := []
  floorReport := .empty

/-- A source record after power-on reset (R29). -/
def SourceRec.reset : SourceRec where
  lock := .absent
  attempts := 0
  format := .none
  channels := none
  rate := none
  ifRate := none
  shortFrames := 0
  run := ⟨0, none⟩
  trim := 0
  listeners := .empty
  engine := none
  pair := none
  seqTimer := none
  syncTimer := none
  laneTimer := none
  quiet := 0
  armed := false
  silenced := false

/-- The TUNER source after power-on reset: LOCKED with PCM2 at 48 kHz, since the tuner is IDLE (R29, R31). -/
def SourceRec.resetTuner : SourceRec :=
  { SourceRec.reset with lock := .locked, format := .pcm2, rate := some .r48 }

def SourceTable.reset : SourceTable where
  sources := ⟨[.reset, .reset, .reset, .reset, .reset, .reset, .reset, .reset, .reset, .resetTuner, .reset], rfl⟩
  lanes := .replicate 4 false

/-- A FREE engine with nothing counted (R67). -/
def EngineRec.reset : EngineRec where
  state := .free
  bound := none
  mode := .decode
  loaded := none
  consumers := .empty
  roles := .empty
  frameErrors := 0
  errorRun := 0
  lastGood := none
  loadTime := none
  delivery := []

def EngineTable.reset : EngineTable where
  engines := .replicate 2 .reset
  wait := []

def Section.zero : Section := ⟨0, 0, 0, 0⟩

def RoleFilter.zero : RoleFilter := ⟨.zero, .zero, .zero, .zero⟩

/-- The settings of R67. -/
def Mapper.reset : Mapper where
  layout := ⟨true, true, true, true, true, true, true, true, true, true⟩
  front := .small
  centre := .small
  surround := .small
  back := .small
  height := .small
  crossover := 80
  sub := true
  cCoef := .db3
  sCoef := .db3
  bCoef := .db45
  hCoef := .db3
  pad := false
  filters := .replicate 9 .zero

/-- A level record at the floor (R85). -/
def LevelRec.floor : LevelRec := ⟨-160, -160, 0, 0, false⟩

def LevelTable.reset : LevelTable where
  levels := .replicate 17 .floor
  lineTrims := .replicate 6 0
  rampTimer := 1
  samples := .replicate 17 0

/-- A channel record after power-on reset (R110), given its assignment. -/
def ChanRec.reset (z : ZoneId) (role : SpkRole) : ChanRec where
  assign := some ⟨z, role⟩
  state := .idle
  cause := none
  retries := 0
  retryWait := none
  freeRun := 0
  trim := 0
  changing := false
  lastCheck := none

def PkgRec.reset : PkgRec := ⟨.off, 0, none, ⟨false, false⟩⟩

/-- The power-on assignment of R87, every package OFF (R110). -/
def AmpTable.reset : AmpTable where
  channels := ⟨[.reset .main .fl, .reset .main .fr, .reset .main .c, .reset .main .sl, .reset .main .sr,
    .reset .main .sbl, .reset .main .sbr, .reset .main .hl, .reset .main .hr, .reset .z2 .l, .reset .z2 .r], rfl⟩
  packages := .replicate 4 .reset
  ready := .replicate 4 false
  reassign := none
  check := none
  floorReport := .replicate 11 false

/-- The limit set after power-on reset (R115). -/
def limitsReset : Limits where
  pkgWarn := 190
  pkgTrip := 230
  pkgHyst := 10
  hsWarn := 160
  hsTrip := 200
  hsHyst := 10
  railLow := 400
  railHigh := 560
  railHyst := 10
  tempN := 16
  railN := 4

def Meas.reset : Meas := ⟨0, 0, 0, false, none⟩

/-- TLM after power-on reset (R131). -/
def Monitor.reset : Monitor where
  meas := .replicate 6 .reset
  limits := limitsReset
  lock := false
  thermal := .replicate 4 ⟨.normal, 0, 2000⟩
  hsWarm := false
  hsTrip := false
  railLow := false
  railHigh := false
  guards := .replicate 3 ⟨0, 4800, 0, 0⟩
  flags := .empty
  samplingTimer := 10

/-- The settings of a fan after power-on reset (R142). -/
def fanSettingsReset (sensors : SensorSet) : FanSettings where
  sensors := sensors
  t1 := 100
  d1 := 64
  t2 := 160
  d2 := 160
  t3 := 200
  stopAllowed := true
  rampRate := 16
  snapToZero := false
  spinUpTime := 1000
  spinUpReduction := false
  edges := 5
  guard := 32
  ignoreEdges := false
  slowMarking := false
  period := 1000
  tachLimit := 15000

/-- A fan record after power-on reset (R142). -/
def FanRec.reset (sensors : SensorSet) : FanRec where
  set := fanSettingsReset sensors
  target := 0
  current := 0
  spinUp := none
  reading := 0xFFFF
  stallRun := 0
  stalled := false
  meas := none
  done := none
  partialEdges := 0
  tachTimer := 1000

def FanTable.reset : FanTable where
  fans := ⟨[.reset ⟨true, true, false, false, false⟩, .reset ⟨false, false, true, true, true⟩], rfl⟩
  dutyTimer := 100

/-- The tuner record after power-on reset (R145). -/
def TunerRec.reset : TunerRec where
  band := .fm
  channel := 10
  state := .idle
  quality := 0
  stereo := false
  opOrigin := none
  dwell := none
  start := none
  ret := none
  scan := none
  af := none
  baseFm := 160
  baseAm := 160
  step := 2
  raster := 9
  margin := 12
  afMargin := 20
  weak := none
  lastPreset := none
  stations := []
  presets := .replicate 40 none
  stopping := false
  seekUp := true
  visited := 0
  ticket := none
  monitor := 100

/-- The station data with every field absent, false or empty (R168, R174). -/
def StationData.cleared : StationData where
  code := none
  cls := none
  traffic := false
  announcement := false
  segments := .replicate 4 ⟨none, none⟩
  name := none
  afList := []

/-- An INACTIVE announcement record (R176). -/
def Announcement.inactive : Announcement := ⟨.inactive, none, none, none, none, .empty⟩

def StationDecoder.reset : StationDecoder where
  sync := .search
  window := []
  data := .cleared
  badWords := 0
  otherGroups := 0
  bits := []
  pos := .a
  group := none
  filter := ⟨none, 0, false⟩
  ann := .inactive

def Slot.free : Slot := ⟨.free, List.replicate 16 0⟩

/-- A link record after power-on reset (R182). -/
def LinkRec.reset : LinkRec where
  slots := .replicate 8 .free
  take := 0
  queue := []
  overrun := false
  seq := 0
  mask := ⟨true, true, true, true, true⟩
  attention := true
  gen := 0
  lastFrame := .none
  dataOut := []
  reading := none

/-- The permission sets of R190. -/
def LinkTable.reset : LinkTable where
  links := .replicate 2 .reset
  perms := ⟨[⟨true, true, true, true, true, true⟩, ⟨true, true, true, true, false, false⟩,
    ⟨true, true, true, true, false, false⟩], rfl⟩
  resetting := none

def KeyRec.clear : KeyRec := ⟨none, 0, false⟩

/-- KPP after power-on reset (R200, R201, R204). -/
def Keypads.reset : Keypads where
  rx0 := none
  rx1 := none
  arrivals := 0
  overflow := false
  ignored := 0
  binding := ⟨[.main, .main, .z2, .z2, .z2, .z3, .z3, .z3], rfl⟩
  keymap := .replicate 64 ⟨.none, 0⟩
  keys := .replicate 8 .clear
  readback := .main
  readOut := []

/-- The part right after power-on reset, with no command waiting. -/
def State.reset : State where
  zc := .reset
  siu := .reset
  de := .reset
  cmap := .reset
  lvu := .reset
  acc := .reset
  tlm := .reset
  fnc := .reset
  tun := .reset
  sdd := .reset
  lnk := .reset
  kpp := .reset
  now := 0
  choices := 0
  pending := []

end Sys2Proof.Machine
end

