-- ==== Sys2Proof/Machine/Ops.lean ====
section
/-! DEFINITION. The named operations over the state that every block uses: reading and writing one record, sets, notices, and the completion of a request's slot. -/
namespace Sys2Proof

/-! ## Indices into the record tables -/

def ZoneId.idx : ZoneId → Fin 3
  | .main => 0 | .z2 => 1 | .z3 => 2

def ZoneId.all : List ZoneId := [.main, .z2, .z3]

def Link.idx : Link → Fin 2
  | .s => 0 | .n => 1

def Link.port : Link → Port
  | .s => .s | .n => .n

def Link.origin : Link → Origin
  | .s => .s | .n => .n

def Port.idx : Port → Fin 3
  | .s => 0 | .n => 1 | .k => 2

def Src.idx : Src → Fin 11
  | .din0 => 0 | .din1 => 1 | .din2 => 2 | .din3 => 3 | .mci => 4 | .ana0 => 5
  | .ana1 => 6 | .ana2 => 7 | .ana3 => 8 | .tuner => 9 | .net => 10

def Src.all : List Src :=
  [.din0, .din1, .din2, .din3, .mci, .ana0, .ana1, .ana2, .ana3, .tuner, .net]

/-- The id of a source, 1 to 11 (section 6.3). -/
def Src.id (x : Src) : Nat := x.idx.val + 1

/-- The kind of a source (section 6.3). -/
def Src.kind : Src → SrcKind
  | .din0 | .din1 | .din2 | .din3 => .digital
  | .mci => .multi
  | .ana0 | .ana1 | .ana2 | .ana3 => .analog
  | .tuner => .tuner
  | .net => .network

def Clocked.src : Clocked → Src
  | .din0 => .din0 | .din1 => .din1 | .din2 => .din2 | .din3 => .din3 | .mci => .mci | .net => .net

def Clocked.all : List Clocked := [.din0, .din1, .din2, .din3, .mci, .net]

def EngineId.idx : EngineId → Fin 2
  | .de0 => 0 | .de1 => 1

def EngineId.all : List EngineId := [.de0, .de1]

def PkgId.idx : PkgId → Fin 4
  | .p0 => 0 | .p1 => 1 | .p2 => 2 | .p3 => 3

def PkgId.all : List PkgId := [.p0, .p1, .p2, .p3]

def ChanId.idx : ChanId → Fin 11
  | .ac0 => 0 | .ac1 => 1 | .ac2 => 2 | .ac3 => 3 | .ac4 => 4 | .ac5 => 5
  | .ac6 => 6 | .ac7 => 7 | .ac8 => 8 | .ac9 => 9 | .ac10 => 10

def ChanId.all : List ChanId :=
  [.ac0, .ac1, .ac2, .ac3, .ac4, .ac5, .ac6, .ac7, .ac8, .ac9, .ac10]

/-- The package a channel lies on (R87). -/
def ChanId.pkg : ChanId → PkgId
  | .ac0 | .ac1 | .ac2 => .p0
  | .ac3 | .ac4 | .ac5 => .p1
  | .ac6 | .ac7 | .ac8 => .p2
  | .ac9 | .ac10 => .p3

def LineId.idx : LineId → Fin 6
  | .sw1 => 0 | .sw2 => 1 | .z2l => 2 | .z2r => 3 | .z3l => 4 | .z3r => 5

def LineId.all : List LineId := [.sw1, .sw2, .z2l, .z2r, .z3l, .z3r]

/-- The zone a line output belongs to (R69). -/
def LineId.zone : LineId → ZoneId
  | .sw1 | .sw2 => .main
  | .z2l | .z2r => .z2
  | .z3l | .z3r => .z3

/-- The place of an output in the order of the level records (R69). -/
def OutId.idx : OutId → Fin 17
  | .ac c => ⟨c.idx.val, Nat.lt_of_lt_of_le c.idx.isLt (by decide)⟩
  | .line l => ⟨l.idx.val + 11, Nat.add_lt_add_right l.idx.isLt 11⟩

def OutId.all : List OutId := ChanId.all.map .ac ++ LineId.all.map .line

def FanId.idx : FanId → Fin 2
  | .f0 => 0 | .f1 => 1

def FanId.all : List FanId := [.f0, .f1]

def Sensor.idx : Sensor → Fin 6
  | .t0 => 0 | .t1 => 1 | .t2 => 2 | .t3 => 3 | .th => 4 | .vr => 5

def Sensor.all : List Sensor := [.t0, .t1, .t2, .t3, .th, .vr]

/-- The temperature input of a package (R112). -/
def PkgId.sensor : PkgId → Sensor
  | .p0 => .t0 | .p1 => .t1 | .p2 => .t2 | .p3 => .t3

/-- The rate in Hz. -/
def Rate.hz : Rate → Nat
  | .r32 => 32000 | .r44 => 44100 | .r48 => 48000 | .r88 => 88200
  | .r96 => 96000 | .r176 => 176400 | .r192 => 192000

def Rate.all : List Rate := [.r32, .r44, .r48, .r88, .r96, .r176, .r192]

/-- The rate of the seven that a measured rate is, if it is one of them (R33). -/
def Rate.ofHz (hz : Nat) : Option Rate := Rate.all.find? (fun r => r.hz == hz)

def Role.all : List Role := [.fl, .fr, .c, .lfe, .sl, .sr, .sbl, .sbr, .hl, .hr]

/-! ## Sets -/

def ZoneSet.has (x : ZoneSet) : ZoneId → Bool
  | .main => x.main | .z2 => x.z2 | .z3 => x.z3

/-- The set with one zone put in or taken out. -/
def ZoneSet.put (x : ZoneSet) (z : ZoneId) (b : Bool) : ZoneSet :=
  match z with
  | .main => { x with main := b }
  | .z2 => { x with z2 := b }
  | .z3 => { x with z3 := b }

def ZoneSet.isEmpty (x : ZoneSet) : Bool := !(x.main || x.z2 || x.z3)

def RoleSet.has (x : RoleSet) : Role → Bool
  | .fl => x.fl | .fr => x.fr | .c => x.c | .lfe => x.lfe | .sl => x.sl
  | .sr => x.sr | .sbl => x.sbl | .sbr => x.sbr | .hl => x.hl | .hr => x.hr

/-- The five roles an engine in UPMIX delivers (R54). -/
def RoleSet.upmix : RoleSet := ⟨true, true, true, false, true, true, false, false, false, false⟩

def RoleSamples.get (x : RoleSamples) : Role → Int
  | .fl => x.fl | .fr => x.fr | .c => x.c | .lfe => x.lfe | .sl => x.sl
  | .sr => x.sr | .sbl => x.sbl | .sbr => x.sbr | .hl => x.hl | .hr => x.hr

def SensorSet.has (x : SensorSet) : Sensor → Bool
  | .t0 => x.t0 | .t1 => x.t1 | .t2 => x.t2 | .t3 => x.t3 | .th => x.th | .vr => false

def SensorSamples.get (x : SensorSamples) : Sensor → Nat
  | .t0 => x.t0 | .t1 => x.t1 | .t2 => x.t2 | .t3 => x.t3 | .th => x.th | .vr => x.vr

def PkgSet.has (x : PkgSet) : PkgId → Bool
  | .p0 => x.p0 | .p1 => x.p1 | .p2 => x.p2 | .p3 => x.p3

def PkgSet.put (x : PkgSet) (p : PkgId) (b : Bool) : PkgSet :=
  match p with
  | .p0 => { x with p0 := b }
  | .p1 => { x with p1 := b }
  | .p2 => { x with p2 := b }
  | .p3 => { x with p3 := b }

end Sys2Proof

namespace Sys2Proof.Machine

/-! ## One record of the state, read and replaced -/

def State.zone (s : State) (z : ZoneId) : ZoneRec := s.zc.zones.get z.idx

def State.setZone (s : State) (z : ZoneId) (r : ZoneRec) : State :=
  { s with zc := { s.zc with zones := s.zc.zones.set z.idx r } }

def State.updZone (s : State) (z : ZoneId) (f : ZoneRec → ZoneRec) : State := s.setZone z (f (s.zone z))

def State.src (s : State) (x : Src) : SourceRec := s.siu.sources.get x.idx

def State.setSrc (s : State) (x : Src) (r : SourceRec) : State :=
  { s with siu := { s.siu with sources := s.siu.sources.set x.idx r } }

def State.updSrc (s : State) (x : Src) (f : SourceRec → SourceRec) : State := s.setSrc x (f (s.src x))

def State.eng (s : State) (e : EngineId) : EngineRec := s.de.engines.get e.idx

def State.setEng (s : State) (e : EngineId) (r : EngineRec) : State :=
  { s with de := { s.de with engines := s.de.engines.set e.idx r } }

def State.updEng (s : State) (e : EngineId) (f : EngineRec → EngineRec) : State := s.setEng e (f (s.eng e))

def State.lev (s : State) (o : OutId) : LevelRec := s.lvu.levels.get o.idx

def State.setLev (s : State) (o : OutId) (r : LevelRec) : State :=
  { s with lvu := { s.lvu with levels := s.lvu.levels.set o.idx r } }

def State.chan (s : State) (c : ChanId) : ChanRec := s.acc.channels.get c.idx

def State.setChan (s : State) (c : ChanId) (r : ChanRec) : State :=
  { s with acc := { s.acc with channels := s.acc.channels.set c.idx r } }

def State.updChan (s : State) (c : ChanId) (f : ChanRec → ChanRec) : State := s.setChan c (f (s.chan c))

def State.pkg (s : State) (p : PkgId) : PkgRec := s.acc.packages.get p.idx

def State.setPkg (s : State) (p : PkgId) (r : PkgRec) : State :=
  { s with acc := { s.acc with packages := s.acc.packages.set p.idx r } }

def State.updPkg (s : State) (p : PkgId) (f : PkgRec → PkgRec) : State := s.setPkg p (f (s.pkg p))

def State.meas (s : State) (i : Sensor) : Meas := s.tlm.meas.get i.idx

def State.setMeas (s : State) (i : Sensor) (r : Meas) : State :=
  { s with tlm := { s.tlm with meas := s.tlm.meas.set i.idx r } }

def State.heat (s : State) (p : PkgId) : Thermal := s.tlm.thermal.get p.idx

def State.setHeat (s : State) (p : PkgId) (r : Thermal) : State :=
  { s with tlm := { s.tlm with thermal := s.tlm.thermal.set p.idx r } }

def State.guard (s : State) (z : ZoneId) : ClipGuard := s.tlm.guards.get z.idx

def State.setGuard (s : State) (z : ZoneId) (r : ClipGuard) : State :=
  { s with tlm := { s.tlm with guards := s.tlm.guards.set z.idx r } }

def State.fan (s : State) (f : FanId) : FanRec := s.fnc.fans.get f.idx

def State.setFan (s : State) (f : FanId) (r : FanRec) : State :=
  { s with fnc := { s.fnc with fans := s.fnc.fans.set f.idx r } }

def State.link (s : State) (l : Link) : LinkRec := s.lnk.links.get l.idx

def State.setLink (s : State) (l : Link) (r : LinkRec) : State :=
  { s with lnk := { s.lnk with links := s.lnk.links.set l.idx r } }

def State.updLink (s : State) (l : Link) (f : LinkRec → LinkRec) : State := s.setLink l (f (s.link l))

def State.perm (s : State) (p : Port) : PermSet := s.lnk.perms.get p.idx

/-- Do something for each zone, in the order of the zone table. -/
def State.eachZone (s : State) (f : ZoneId → State → State) : State :=
  ZoneId.all.foldl (fun t z => f z t) s

/-- Do something for each channel, in the order of the channel table. -/
def State.eachChan (s : State) (f : ChanId → State → State) : State :=
  ChanId.all.foldl (fun t c => f c t) s

/-- Do something for each package, in order. -/
def State.eachPkg (s : State) (f : PkgId → State → State) : State :=
  PkgId.all.foldl (fun t p => f p t) s

/-- Do something for each output, in the order of the level records. -/
def State.eachOut (s : State) (f : OutId → State → State) : State :=
  OutId.all.foldl (fun t o => f o t) s

/-! ## Orders the spec leaves open -/

/-- One of two states: the first where they agree, else the one `Config.order` names. -/
def pickOne (a b : State) : State :=
  if a = b then a
  else if Config.order a.choices then { a with choices := a.choices + 1 } else { b with choices := a.choices + 1 }

/-- Two hand-overs of one event, taken in either order. -/
def inEitherOrder (f g : State → State) (s : State) : State := pickOne (g (f s)) (f (g s))

/-- Three hand-overs of one event, taken in any order. -/
def inAnyOrder (f g h : State → State) (s : State) : State :=
  pickOne (pickOne (h (g (f s))) (h (f (g s))))
    (pickOne (pickOne (g (h (f s))) (f (h (g s)))) (pickOne (g (f (h s))) (f (g (h s)))))

/-! ## Notices (R191) -/

/-- The class of a notice, in the order of the bits of a notice mask. -/
inductive NoticeClass where
  | zone | source | tuner | protect | link
  deriving DecidableEq, Repr

/-- The class each kind of notice is posted in (section 6.6). -/
def NoticeBody.cls : NoticeBody → NoticeClass
  | .zoneState .. | .zoneWait .. | .zoneSource .. | .zoneVolume .. | .zoneMute .. | .zoneSleep .. => .zone
  | .srcLockLost .. | .srcLost .. | .srcFormat .. => .source
  | .tuned .. | .region .. | .stationName .. | .announceStart .. | .announceEnd .. => .tuner
  | .channelLatched .. | .packageLatched .. | .lineCheck .. | .flagSet .. => .protect
  | .requestDone .. | .resetDone | .keypadOverrun .. | .keyStuck .. => .link

/-- The most notices a link's queue holds (R191). -/
def queueMax : Nat := 16

/-- A link takes a notice offered to it: it uses up a sequence number, and joins the queue or is dropped as an overrun (R191). -/
def LinkRec.accept (r : LinkRec) (b : NoticeBody) (o : Origin) : LinkRec :=
  if r.queue.length < queueMax then { r with seq := r.seq + 1, queue := r.queue ++ [⟨b, o, r.seq⟩] }
  else { r with seq := r.seq + 1, overrun := true }

end Sys2Proof.Machine

namespace Sys2Proof

/-- Whether a notice mask holds a class. -/
def ClassSet.has (m : ClassSet) : Machine.NoticeClass → Bool
  | .zone => m.zone | .source => m.source | .tuner => m.tuner | .protect => m.protect | .link => m.link

end Sys2Proof

namespace Sys2Proof.Machine

/-- A link takes a notice if its mask holds the notice's class (R191). -/
def LinkRec.offer (r : LinkRec) (b : NoticeBody) (o : Origin) : LinkRec :=
  if r.mask.has b.cls then r.accept b o else r

/-- A block posts a notice: it is offered to Link S and to Link N (R191). -/
def State.post (s : State) (b : NoticeBody) (o : Origin) : State :=
  (s.updLink .s (fun r => r.offer b o)).updLink .n (fun r => r.offer b o)

/-- ZC posts a notice for a zone, and the zone's last origin takes the notice's origin (R26). -/
def State.postZone (s : State) (z : ZoneId) (b : NoticeBody) (o : Origin) : State :=
  (s.updZone z (fun r => { r with lastOrigin := o })).post b o

/-- A change of a zone record that posts no notice sets the last origin alone (R14). -/
def State.stamp (s : State) (z : ZoneId) (o : Origin) : State :=
  s.updZone z (fun r => { r with lastOrigin := o })

/-- Whether a link's attention line is asserted (R192). -/
def State.attentionLine (s : State) (l : Link) : Bool := (s.link l).attention && !(s.link l).queue.isEmpty

/-! ## Completing a request (R187, section 10.8) -/

/-- What an owner answers a request with: its status, page byte and result data, or that it has taken a long request. -/
inductive Reply where
  | done (st : Status) (page : Byte) (data : List Byte)
  | later
  deriving DecidableEq, Repr

/-- An answer with no result data. -/
def Reply.plain (st : Status) : Reply := .done st 0 []

/-- The number of a status code in a result slot (section 10.8). -/
def Status.code : Status → Byte
  | .ok => 0 | .clamped => 1 | .busy => 2 | .noPermission => 3 | .badKind => 4 | .badZone => 5
  | .badArgument => 6 | .notAvailable => 7 | .tunerInUse => 8 | .locked => 9 | .chainShort => 10
  | .chainLong => 11 | .aborted => 12 | .noneFound => 13

/-- The kind byte of a continuation slot (R197). -/
def continuationKind : Byte := 0xFF

/-- A list of bytes brought to a fixed length with zeros. -/
def fitBytes (n : Nat) (x : List Byte) : List Byte := (x ++ List.replicate n 0).take n

/-- The sixteen bytes of a result slot (section 10.8). -/
def resultRecord (kind : Byte) (st : Status) (tag target page : Byte) (data : List Byte) : List Byte :=
  [kind, st.code, tag, target, page] ++ fitBytes 11 data

/-- The continuation slots of a chain become DONE with a status and their own tags echoed (R188). -/
def LinkRec.finishRest (r : LinkRec) (st : Status) (slot : Fin 8) : Nat → LinkRec
  | 0 => r
  | k + 1 =>
    let i := slot + 1
    let tag := (r.slots.get i).record.getD 1 0
    LinkRec.finishRest { r with slots := r.slots.set i ⟨.done, resultRecord continuationKind st tag 0 0 []⟩ } st i k

/-- A link's request completes: its first slot takes the result, its continuation slots their own status, and a REQUEST_DONE notice is queued if the request asked for one (R187, R188). -/
def LinkRec.completeAs (r : LinkRec) (t : Ticket) (st rest : Status) (page : Byte) (data : List Byte) (o : Origin) : LinkRec :=
  let r1 := { r with slots := r.slots.set t.slot ⟨.done, resultRecord t.kind st t.tag t.target page data⟩ }
  let r2 := r1.finishRest rest t.slot (t.slots - 1)
  if t.notify then r2.accept (.requestDone t.slot t.kind t.tag st) o else r2

/-- The same with the continuation slots of a chain completing OK (R188). -/
def LinkRec.complete (r : LinkRec) (t : Ticket) (st : Status) (page : Byte) (data : List Byte) (o : Origin) : LinkRec :=
  r.completeAs t st .ok page data o

/-- A request completes, unless its link has been reset since the take (R187).
DEDUCED (log entry 18): the REQUEST_DONE notice carries the request's own link as its origin, whatever ended the operation. -/
def State.complete (s : State) (t : Ticket) (st : Status) (page : Byte) (data : List Byte) : State :=
  if (s.link t.link).gen = t.gen then s.updLink t.link (fun r => r.complete t st page data t.link.origin) else s

/-- The same for an operation that may have no slot, as a tune ordered by a PRESET_RECALL. -/
def State.completeOpt (s : State) (t : Option Ticket) (st : Status) (data : List Byte) : State :=
  match t with
  | none => s
  | some k => s.complete k st 0 data

end Sys2Proof.Machine
end

