-- ==== Sys2Proof/Machine/Flags.lean ====
section
/-! DEFINITION. The twenty sticky flags: their setting events and their conditions (R126, R127), and the protection summary for the keypads. -/
namespace Sys2Proof

/-- Whether a flag is in a flag set. -/
def FlagSet.has (x : FlagSet) : Machine.FlagId → Bool
  | .warnSeen p => x.warnSeen.has p
  | .tripSeen p => x.tripSeen.has p
  | .stageSilent p => x.stageSilent.has p
  | .ocSeen p => x.ocSeen.has p
  | .railLow => x.railLow
  | .railHigh => x.railHigh
  | .fan0Stall => x.fan0Stall
  | .fan1Stall => x.fan1Stall

/-- The flag set with one flag set or cleared. -/
def FlagSet.put (x : FlagSet) (f : Machine.FlagId) (b : Bool) : FlagSet :=
  match f with
  | .warnSeen p => { x with warnSeen := x.warnSeen.put p b }
  | .tripSeen p => { x with tripSeen := x.tripSeen.put p b }
  | .stageSilent p => { x with stageSilent := x.stageSilent.put p b }
  | .ocSeen p => { x with ocSeen := x.ocSeen.put p b }
  | .railLow => { x with railLow := b }
  | .railHigh => { x with railHigh := b }
  | .fan0Stall => { x with fan0Stall := b }
  | .fan1Stall => { x with fan1Stall := b }

end Sys2Proof

namespace Sys2Proof.Machine

/-- The twenty flags, in the order of the table of R126. -/
def FlagId.all : List FlagId :=
  PkgId.all.map .warnSeen ++ PkgId.all.map .tripSeen ++ PkgId.all.map .stageSilent ++ PkgId.all.map .ocSeen ++
    [.railLow, .railHigh, .fan0Stall, .fan1Stall]

def State.flag (s : State) (f : FlagId) : Bool := s.tlm.flags.has f

def State.putFlag (s : State) (f : FlagId) (b : Bool) : State :=
  { s with tlm := { s.tlm with flags := s.tlm.flags.put f b } }

/-- A setting event: a clear flag is set and a FLAG_SET notice posted; a set flag stays and nothing is posted (R126). -/
def setFlag (f : FlagId) (s : State) : State :=
  if s.flag f then s else (s.putFlag f true).post (.flagSet f) .part

/-- The channels of a package (R87). -/
def pkgChans (p : PkgId) : List ChanId := ChanId.all.filter (fun c => c.pkg == p)

/-- A flag's condition, while which the flag may not be cleared (R126). -/
def flagCondition (s : State) : FlagId → Bool
  | .warnSeen p => (s.heat p).heat != .normal
  | .tripSeen p => (s.heat p).heat == .hot
  | .stageSilent p => (s.pkg p).power == .retryWait || (s.pkg p).power == .latched
  | .ocSeen p => (pkgChans p).any (fun c =>
      ((s.chan c).state == .fault && (s.chan c).cause == some .overcurrent) || (s.chan c).state == .latched)
  | .railLow => s.tlm.railLow
  | .railHigh => s.tlm.railHigh
  | .fan0Stall => (s.fan .f0).stalled
  | .fan1Stall => (s.fan .f1).stalled

/-- PROT_CLEAR's second part for one flag: a named flag whose condition is absent is cleared (R128). -/
def clearFlag (mask : FlagSet) (f : FlagId) (s : State) : State :=
  if mask.has f && s.flag f && !flagCondition s f then s.putFlag f false else s

/-- The summary TLM offers the keypad port: any of the twenty flags is set (R126). -/
def protection (s : State) : Bool := FlagId.all.any (fun f => s.flag f)

end Sys2Proof.Machine
end

