-- ==== Sys2Proof/Machine/Operands.lean ====
section
/-! DEFINITION. The operand forms: what a byte or number of a request names, and the ranges it is held to. -/
namespace Sys2Proof.Machine

/-- A value limited to a range. -/
def clampInt (lo hi v : Int) : Int := max lo (min hi v)

/-- OK or CLAMPED, by whether the limit changed the value (R14). -/
def clampStatus (asked applied : Int) : Status := if asked = applied then .ok else .clamped

/-- The zone a zone field names: 0 MAIN, 1 Z2, 2 Z3 (section 10.8). -/
def zoneOfCode (n : Nat) : Option ZoneId :=
  ZoneId.all.find? (fun z => z.idx.val == n)

/-- The source an id 1 to 11 names. -/
def srcOfId (n : Nat) : Option Src := Src.all.find? (fun x => x.id == n)

/-- The channel a number 0 to 10 names. -/
def chanOfCode (n : Nat) : Option ChanId := ChanId.all.find? (fun c => c.idx.val == n)

/-- The output a number 0 to 16 names, in the order of the level records (R69). -/
def outOfCode (n : Nat) : Option OutId := OutId.all.find? (fun o => o.idx.val == n)

/-- The engine a number names. -/
def engineOfCode (n : Nat) : Option EngineId := EngineId.all.find? (fun e => e.idx.val == n)

/-- The fan a number names. -/
def fanOfCode (n : Nat) : Option FanId := FanId.all.find? (fun f => f.idx.val == n)

/-- The preset or station index a number names (R155, R157). -/
def indexOf40 (n : Nat) : Option (Fin 40) := if h : n < 40 then some ⟨n, h⟩ else none

/-- The keypad an id names (R200). -/
def keypadOf (n : Nat) : Option (Fin 8) := if h : n < 8 then some ⟨n, h⟩ else none

/-- The listening mode a code names (R57, R59). -/
def modeOfCode : Nat → Option ListenMode
  | 0 => some .direct | 1 => some .stereo | 2 => some .multi | 3 => some .upmix | _ => none

/-- The group setting a code names: LARGE or SMALL (R63). -/
def groupOfCode : Nat → Option GroupSize
  | 0 => some .large | 1 => some .small | _ => none

/-- The coefficient value a code names (R65). -/
def coefOfCode : Nat → Option Coef
  | 0 => some .db0 | 1 => some .db3 | 2 => some .db45 | 3 => some .db6 | 4 => some .off | _ => none

/-- The band a code names. -/
def bandOfCode : Nat → Option Band
  | 0 => some .fm | 1 => some .am | _ => none

/-- The role a code names (R197). -/
def spkRoleOfCode : Nat → Option SpkRole
  | 0 => some .fl | 1 => some .fr | 2 => some .c | 3 => some .sl | 4 => some .sr | 5 => some .sbl
  | 6 => some .sbr | 7 => some .hl | 8 => some .hr | 9 => some .l | 10 => some .r | _ => none

/-- The key action a code names (R202). -/
def actionOfCode : Nat → Option Action
  | 0 => some .none | 1 => some .volUp | 2 => some .volDown | 3 => some .muteToggle
  | 4 => some .powerToggle | 5 => some .sourceNext | 6 => some .presetNext | _ => none

/-- The permission set LINK_PERMIT names: N or K (R190). -/
def permitPort : Nat → Option Port
  | 0 => some .n | 1 => some .k | _ => none

/-- Whether a list of numbers holds none twice. -/
def distinct : List Nat → Bool
  | [] => true
  | x :: l => !l.contains x && distinct l

/-- Every entry of a list read by a partial function, if all can be. -/
def allSome {α β : Type} (f : α → Option β) : List α → Option (List β)
  | [] => some []
  | a :: l =>
    match f a, allSome f l with
    | some b, some m => some (b :: m)
    | _, _ => none

end Sys2Proof.Machine
end

