-- ==== Sys2Proof/Machine/Level.lean ====
section
/-! DEFINITION. The level chain up to the gain word: target level, limit level, ramp, snap and gain table (R70 to R78). -/
namespace Sys2Proof.Machine

/-- The floor level, which means silence (section 5). -/
def floorLevel : Int := -160

/-- The highest applied level (section 6.1). -/
def topLevel : Int := 36

/-- The entries for A from -159 to -120. -/
def gainRow0 : List Nat :=
  [
    111, 118, 125, 132, 140, 148, 157, 166, 176, 186,
    198, 209, 222, 235, 249, 263, 279, 296, 313, 332,
    351, 372, 394, 417, 442, 468, 496, 526, 557, 590,
    625, 662, 701, 742, 786, 833, 882, 935, 990, 1049]

/-- The entries for A from -119 to -80. -/
def gainRow1 : List Nat :=
  [
    1111, 1177, 1246, 1320, 1398, 1481, 1569, 1662, 1760, 1865,
    1975, 2092, 2216, 2347, 2487, 2634, 2790, 2955, 3130, 3316,
    3512, 3720, 3941, 4174, 4422, 4684, 4961, 5255, 5567, 5897,
    6246, 6616, 7008, 7423, 7863, 8329, 8823, 9345, 9899, 10486]

/-- The entries for A from -79 to -40. -/
def gainRow2 : List Nat :=
  [
    11107, 11765, 12462, 13201, 13983, 14812, 15689, 16619, 17604, 18647,
    19751, 20922, 22162, 23475, 24866, 26339, 27900, 29553, 31304, 33159,
    35124, 37205, 39409, 41745, 44218, 46838, 49614, 52553, 55667, 58966,
    62460, 66161, 70081, 74233, 78632, 83291, 88227, 93454, 98992, 104858]

/-- The entries for A from -39 to 0. -/
def gainRow3 : List Nat :=
  [
    111071, 117652, 124623, 132008, 139830, 148115, 156892, 166188, 176035, 186466,
    197515, 209218, 221615, 234747, 248657, 263390, 278997, 295529, 313040, 331589,
    351237, 372049, 394094, 417446, 442181, 468382, 496135, 525533, 556673, 589658,
    624597, 661607, 700809, 742335, 786321, 832914, 882267, 934544, 989920, 1048576]

/-- The entries for A from 1 to 36. -/
def gainRow4 : List Nat :=
  [
    1110708, 1176522, 1246235, 1320079, 1398299, 1481153, 1568917, 1661881, 1760354, 1864661,
    1975149, 2092184, 2216154, 2347469, 2486566, 2633904, 2789972, 2955289, 3130401, 3315888,
    3512367, 3720488, 3940941, 4174456, 4421808, 4683817, 4961351, 5255329, 5566727, 5896576,
    6245970, 6616067, 7008094, 7423350, 7863211, 8329135]

/-- The gain table of R77: one entry for each A from -159 to +36, round(2^20 x 10^(A/40)). -/
def gainTable : List Nat := gainRow0 ++ gainRow1 ++ gainRow2 ++ gainRow3 ++ gainRow4

/-- The gain table's entry for an applied level above the floor; 0 at the floor (R77). -/
def gainEntry (a : Int) : Nat := if a ≤ floorLevel then 0 else gainTable.getD (a + 159).toNat 0

/-! ## Outputs (R69) -/

/-- The zone an output belongs to at this moment: none for an unassigned channel (R69). -/
def outZone (s : State) : OutId → Option ZoneId
  | .ac c => (s.chan c).assign.map (fun a => a.zone)
  | .line l => some l.zone

/-- The outputs of a zone at this moment. -/
def zoneOuts (s : State) (z : ZoneId) : List OutId := OutId.all.filter (fun o => outZone s o == some z)

/-- The trim T of an output: of the channel record, or the line trim (R69). -/
def outTrim (s : State) : OutId → Int
  | .ac c => (s.chan c).trim
  | .line l => s.lvu.lineTrims.get l.idx

/-- The dialogue lift term D: applied to AC2 alone (R72). -/
def outLift (s : State) (o : OutId) : Int := if o = .ac .ac2 then s.zc.lift else 0

/-- The derate term P of the package carrying the output; 0 for line outputs (R72). -/
def outDerate (s : State) : OutId → Int
  | .ac c => (s.heat c.pkg).derate
  | .line _ => 0

/-! ## Target and limit -/

/-- The effective volume of a zone (R71). -/
def effVolume (s : State) (z : ZoneId) : Int :=
  let r := s.zone z
  if s.sdd.ann.taken.has z then min r.ceiling (max r.volume r.minLevel) else r.volume

/-- Whether an output delivers its gain word: a line output always, a channel only while ACTIVE (R77). -/
def outOpen (s : State) : OutId → Bool
  | .ac c => (s.chan c).state == .active
  | .line _ => true

/-- The target level L_t of an output, from the terms as they stand (R70, R72). -/
def targetLevel (s : State) (o : OutId) : Int :=
  match outZone s o with
  | none => floorLevel
  | some z =>
    let r := s.zone z
    if r.state ≠ .playing ∨ r.mute = true ∨ outOpen s o = false ∨ effVolume s z = floorLevel then floorLevel
    else clampInt floorLevel topLevel
      (effVolume s z + outTrim s o + (s.src r.source).trim + outLift s o + outDerate s o + (s.guard z).guard)

/-- The limit level of an output that has a zone (R73). -/
def limitLevel (s : State) (o : OutId) : Option Int :=
  (outZone s o).map (fun z =>
    clampInt floorLevel topLevel
      ((s.zone z).ceiling + outTrim s o + (s.src (s.zone z).source).trim + outLift s o))

/-! ## Applied level and gain word -/

/-- The gain word of an output for an applied level (R77). -/
def gainFor (s : State) (o : OutId) (a : Int) : Nat := if outOpen s o then gainEntry a else 0

/-- LVU sets an output's applied level, and its gain word with it (R77). -/
def setLevel (o : OutId) (a : Int) (s : State) : State :=
  s.setLev o { s.lev o with level := a, gain := gainFor s o a }

/-- LVU sets an amplified channel's gain word anew when the channel's state changes (R77). -/
def refreshGain (o : OutId) (s : State) : State := setLevel o (s.lev o).level s

/-- A snap: target and applied level at the floor and gain word 0, at once (R76). -/
def snap (o : OutId) (s : State) : State :=
  s.setLev o { s.lev o with target := floorLevel, level := floorLevel, gain := 0 }

/-- A snap of every output of a zone (R76). -/
def snapZone (z : ZoneId) (s : State) : State :=
  s.eachOut (fun o t => if outZone s o = some z then snap o t else t)

/-- A bound cut: an applied level above the output's limit level is set to it at once (R73). -/
def boundCut (o : OutId) (s : State) : State :=
  match limitLevel s o with
  | none => s
  | some m => if m < (s.lev o).level then setLevel o m s else s

/-- A bound cut of every output that a predicate picks. -/
def boundCuts (p : OutId → Bool) (s : State) : State :=
  s.eachOut (fun o t => if p o then boundCut o t else t)

/-! ## The ramp step (R75, R78) -/

/-- The rate of a ramp step while a zone switches or a channel drains. -/
def switchingRate : Int := 8

/-- The largest move of an output's applied level in this ramp step (R75). -/
def rampRate (s : State) (o : OutId) (z : ZoneId) : Int :=
  let draining := match o with
    | .ac c => (s.chan c).state == .draining
    | .line _ => false
  if (s.zone z).state = .switching ∨ draining = true then switchingRate else (s.zone z).ramp

/-- A level moved toward a target by at most a rate, stopping at the target. -/
def moveToward (a target rate : Int) : Int :=
  if a < target then min target (a + rate) else if target < a then max target (a - rate) else a

/-- The applied level of an output after a ramp step; an output with no zone stands at the floor (R73, R75). -/
def rampedLevel (s : State) (o : OutId) : Int :=
  match outZone s o with
  | none => floorLevel
  | some z => moveToward (s.lev o).level (targetLevel s o) (rampRate s o z)

/-- One output's part of a ramp step (R75). -/
def rampOut (o : OutId) (s : State) : State :=
  let a := rampedLevel s o
  s.setLev o { s.lev o with target := targetLevel s o, level := a, gain := gainFor s o a }

/-- Whether every output of a zone stands at the floor. -/
def zoneAtFloor (s : State) (z : ZoneId) : Bool := (zoneOuts s z).all (fun o => (s.lev o).level == floorLevel)

/-- The zones reported to ZC at a ramp step: those SWITCHING with every output at the floor (R78). -/
def floorZones (s : State) : ZoneSet :=
  let f := fun z => (s.zone z).state == .switching && zoneAtFloor s z
  ⟨f .main, f .z2, f .z3⟩

/-- The channels reported to ACC at a ramp step: those at the floor (R78). -/
def floorChans (s : State) : Tab 11 Bool :=
  ⟨ChanId.all.map (fun c => (s.lev (.ac c)).level == floorLevel), rfl⟩

/-- LVU reports the floor to ZC and to ACC (R78). -/
def reportFloor (s : State) : State :=
  { s with zc := { s.zc with floorReport := floorZones s }, acc := { s.acc with floorReport := floorChans s } }

end Sys2Proof.Machine
end

