-- ==== Sys2Proof/Machine/Amp.lean ====
section
/-! DEFINITION. The Amplifier Channel Controller: capability, channel states, package power, holds, the swap of a reassignment and the end of a line check (R87 to R107). -/
namespace Sys2Proof.Machine

/-! ## Capability and assignment (R87) -/

/-- The (zone, role) pairs a channel can carry. -/
def capability : ChanId → List Assign
  | .ac0 => [⟨.main, .fl⟩]
  | .ac1 => [⟨.main, .fr⟩]
  | .ac2 => [⟨.main, .c⟩]
  | .ac3 => [⟨.main, .sl⟩]
  | .ac4 => [⟨.main, .sr⟩]
  | .ac5 => [⟨.main, .sbl⟩, ⟨.z2, .l⟩]
  | .ac6 => [⟨.main, .sbr⟩, ⟨.z2, .r⟩]
  | .ac7 => [⟨.main, .hl⟩, ⟨.z2, .l⟩, ⟨.z3, .l⟩]
  | .ac8 => [⟨.main, .hr⟩, ⟨.z2, .r⟩, ⟨.z3, .r⟩]
  | .ac9 => [⟨.z2, .l⟩, ⟨.z3, .l⟩]
  | .ac10 => [⟨.z2, .r⟩, ⟨.z3, .r⟩]

/-- Whether a channel can be unassigned: AC5 to AC10. -/
def canBeUnassigned : ChanId → Bool
  | .ac0 | .ac1 | .ac2 | .ac3 | .ac4 => false
  | .ac5 | .ac6 | .ac7 | .ac8 | .ac9 | .ac10 => true

/-- Whether an assignment lies within a channel's capability. -/
def withinCapability (c : ChanId) : Option Assign → Bool
  | none => canBeUnassigned c
  | some a => (capability c).contains a

/-- The assignment in force. -/
def assignment (s : State) : Tab 11 (Option Assign) := s.acc.channels.map (fun r => r.assign)

/-- The channel that carries a (zone, role) in an assignment. -/
def carrier (a : Tab 11 (Option Assign)) (x : Assign) : Option ChanId :=
  ChanId.all.find? (fun c => a.get c.idx == some x)

/-- Whether an assignment carries no (zone, role) twice. -/
def noneTwice (a : Tab 11 (Option Assign)) : Bool :=
  ChanId.all.all (fun c => ChanId.all.all (fun d =>
    c == d || (a.get c.idx).isNone || !(a.get c.idx == a.get d.idx)))

/-- Whether SBL and SBR, and HL and HR, are each both assigned or both not. -/
def pairsWhole (a : Tab 11 (Option Assign)) : Bool :=
  ((carrier a ⟨.main, .sbl⟩).isSome == (carrier a ⟨.main, .sbr⟩).isSome) &&
    ((carrier a ⟨.main, .hl⟩).isSome == (carrier a ⟨.main, .hr⟩).isSome)

/-- The main layout: MAIN's assigned roles, and SW while the subwoofer is enabled (R61). -/
def mainLayout (s : State) : Layout :=
  let a := assignment s
  let has := fun x => (carrier a ⟨.main, x⟩).isSome
  ⟨has .fl, has .fr, has .c, has .sl, has .sr, has .sbl, has .sbr, has .hl, has .hr, s.cmap.sub⟩

/-- CMAP recomputes the main layout (R61). -/
def recomputeLayout (s : State) : State := { s with cmap := { s.cmap with layout := mainLayout s } }

/-! ## Channel states (R90) -/

/-- A channel takes a state; its fault cause is present exactly in FAULT, and its gain word follows (R77, R88). -/
def setChanState (c : ChanId) (st : ChanState) (cause : Option FaultCause) (s : State) : State :=
  refreshGain (.ac c) (s.updChan c (fun r => { r with state := st, cause := cause }))

/-- Whether a channel needs its package (R90). -/
def needsPkg (s : State) (c : ChanId) : Bool :=
  (s.chan c).state == .enabling || (s.chan c).state == .active || (s.chan c).state == .testing

/-- Whether a package is needed by one of its channels. -/
def pkgNeeded (s : State) (p : PkgId) : Bool := (pkgChans p).any (fun c => needsPkg s c)

/-- Whether a package is held (R89). -/
def pkgHeld (s : State) (p : PkgId) : Bool := (s.pkg p).holds.thermal || (s.pkg p).holds.rail

/-- Whether ACC drives a package's enable output (R89). -/
def pkgEnable (s : State) (p : PkgId) : Bool := (s.pkg p).power == .enabling || (s.pkg p).power == .on

/-- The length of the READY window, in ms (R92). -/
def readyWindow : Nat := 20

/-- The test step of the line check on a channel of a package that is ON is applied: its counter starts at 0 (R106). -/
def startTestStep (p : PkgId) (s : State) : State :=
  match s.acc.check with
  | some k =>
    if k.channel.pkg = p ∧ k.counter = none then { s with acc := { s.acc with check := some { k with counter := some 0 } } }
    else s
  | none => s

/-- A package enters ON: the window is removed, the miss count is 0, and its ENABLING channels enter ACTIVE (R90, R92).
DEDUCED (log entry 46): an ENABLING channel whose zone has left PLAYING enters ACTIVE with the others, as R90 and R92 have it; R91 and R94 can be read otherwise. -/
def pkgOn (p : PkgId) (s : State) : State :=
  startTestStep p
    ((s.updPkg p (fun r => { r with power := .on, misses := 0, timer := none })).eachChan
      (fun c t => if c.pkg = p ∧ (t.chan c).state = .enabling then setChanState c .active none t else t))

/-- A package enters ENABLING and opens a READY window; READY already asserted takes it to ON at once (R92). -/
def pkgStart (p : PkgId) (s : State) : State :=
  let t := s.updPkg p (fun r => { r with power := .enabling, timer := some readyWindow })
  if s.acc.ready.get p.idx then pkgOn p t else t

/-- A package enters OFF, its window or wait abandoned and its miss count kept (R95, R99). -/
def pkgOff (p : PkgId) (s : State) : State := s.updPkg p (fun r => { r with power := .off, timer := none })

/-- A package is powered when one of its channels needs it and released when none does any longer (R92, R95). -/
def settlePkg (p : PkgId) (s : State) : State :=
  match (s.pkg p).power with
  | .off => if pkgNeeded s p && !pkgHeld s p then pkgStart p s else s
  | .latched => s
  | .enabling | .on | .retryWait => if pkgNeeded s p then s else pkgOff p s

/-- Whether a channel's zone is PLAYING. -/
def chanPlays (s : State) (c : ChanId) : Bool :=
  match (s.chan c).assign with
  | none => false
  | some a => (s.zone a.zone).state == .playing

/-- Whether a channel stays in its state only until its first floor report: ACTIVE or ENABLING with its zone no longer PLAYING, or ENABLING with its package LATCHED (R91). -/
def awaitsFloor (s : State) (c : ChanId) : Bool :=
  let r := s.chan c
  ((r.state == .active || r.state == .enabling) && !chanPlays s c) || (r.state == .enabling && (s.pkg c.pkg).power == .latched)

/-- A channel that awaits its first floor report after an event, and did not before it, has none yet: what LVU reported earlier does not end its fade (R78, R91). -/
def forgetEarlier (before after : State) : State :=
  { after with acc := { after.acc with
      floorReport := ⟨ChanId.all.map (fun c => after.acc.floorReport.get c.idx && (awaitsFloor before c || !awaitsFloor after c)), rfl⟩ } }

/-- An IDLE channel is evaluated: it leaves IDLE when its zone is PLAYING and nothing forbids it (R90). -/
def evalChan (c : ChanId) (s : State) : State :=
  let r := s.chan c
  if r.state = .idle ∧ chanPlays s c = true ∧ r.changing = false ∧ (s.pkg c.pkg).power ≠ .latched ∧ pkgHeld s c.pkg = false then
    settlePkg c.pkg (setChanState c (if (s.pkg c.pkg).power = .on then .active else .enabling) none s)
  else s

/-- A channel enters IDLE, is evaluated at once, and its package is released if nothing needs it (R90, R95). -/
def enterIdle (c : ChanId) (s : State) : State :=
  settlePkg c.pkg (evalChan c (setChanState c .idle none (s.updChan c (fun r => { r with retryWait := none }))))

/-- A channel faults or latches: it is snapped to the floor (R76, R96, R99). -/
def faultChan (c : ChanId) (st : ChanState) (cause : Option FaultCause) (s : State) : State :=
  snap (.ac c) (setChanState c st cause s)

/-! ## The swap of a reassignment (R103) -/

/-- The one-byte code of a channel's assignment in an AMP_ASSIGN result: the zone in the upper four bits, the role in the lower four, 0xFF for none. -/
def assignCode : Option Assign → Byte
  | none => 0xFF
  | some a => BitVec.ofNat 8 (16 * a.zone.idx.val + (match a.role with
      | .fl => 0 | .fr => 1 | .c => 2 | .sl => 3 | .sr => 4 | .sbl => 5
      | .sbr => 6 | .hl => 7 | .hr => 8 | .l => 9 | .r => 10))

/-- The assignment, one byte a channel: the result of an AMP_ASSIGN. -/
def assignBytes (a : Tab 11 (Option Assign)) : List Byte := a.entries.map assignCode

/-- A channel's clip count and clip flag are cleared (R83). -/
def clearClips (o : OutId) (s : State) : State := s.setLev o { s.lev o with clips := 0, clipFlag := false }

/-- One changing channel takes its new assignment, its clip count cleared (R103, steps 1 and 2). -/
def takeAssign (a : Tab 11 (Option Assign)) (c : ChanId) (s : State) : State :=
  if (s.chan c).changing then clearClips (.ac c) (s.updChan c (fun r => { r with assign := a.get c.idx })) else s

/-- One changing channel in DRAINING enters IDLE (R103, step 4). -/
def endDrain (c : ChanId) (s : State) : State :=
  if (s.chan c).changing ∧ (s.chan c).state = .draining then setChanState c .idle none s else s

/-- One channel's changing field becomes false, and in IDLE it is evaluated (R103, step 4). -/
def endChanging (c : ChanId) (s : State) : State :=
  if (s.chan c).changing then evalChan c (s.updChan c (fun r => { r with changing := false })) else s

/-- The swap (R103). -/
def swap (s : State) : State :=
  match s.acc.reassign with
  | none => s
  | some r =>
    let t := recomputeLayout (s.eachChan (takeAssign r.result))
    let u := (t.eachChan endDrain).eachChan endChanging
    { u with acc := { u.acc with reassign := none } }.complete r.ticket .ok 0 (assignBytes r.result)

/-- Whether a channel drains for the reassignment in flight (R102). -/
def drains (s : State) (c : ChanId) : Bool := (s.chan c).changing && (s.chan c).state == .draining

/-- LVU has reported every draining channel of the reassignment in flight at the floor (R78, R83). -/
def allReported (s : State) : Bool := ChanId.all.all (fun c => !drains s c || s.acc.floorReport.get c.idx)

/-- The swap is taken if a reassignment is in flight and every channel that still drains is reported at the floor (R103). -/
def trySwap (s : State) : State := if s.acc.reassign.isSome && allReported s then swap s else s

/-- The swap as it stands at the moment the last draining channel leaves DRAINING for FAULT or LATCHED: `left` tells whether one did (R103). -/
def swapAfterFault (left : Bool) (s : State) : State := if left then trySwap s else s

/-! ## The end of a line check (R106, R107) -/

/-- The verdict of a count (R106). -/
def verdictOf (count : Nat) : Verdict :=
  if count ≤ 7 then .short else if count < 1023 then .loaded else .open

/-- The line check in flight ends with a verdict (R106). -/
def endCheck (count : Nat) (v : Verdict) (s : State) : State :=
  match s.acc.check with
  | none => s
  | some k =>
    let t := s.updChan k.channel (fun r => { r with lastCheck := some (count, v) })
    let u := enterIdle k.channel { t with acc := { t.acc with check := none } }
    (u.complete k.ticket .ok 0 [BitVec.ofNat 8 (count / 256), BitVec.ofNat 8 count,
      match v with | .short => 0 | .loaded => 1 | .open => 2]).post (.lineCheck k.channel count v) .part

/-- The line check in flight ends without a verdict; what becomes of its channel is the caller's (R107). -/
def dropCheck (st : Status) (s : State) : State :=
  match s.acc.check with
  | none => s
  | some k => ({ s with acc := { s.acc with check := none } } : State).complete k.ticket st 0 []

/-- The counter of a running line check some microseconds after the test step (R106). -/
def advanceCounter (counter : Option Nat) (elapsed : Nat) : Nat :=
  match counter with
  | none => 0
  | some n => min 1023 (n + elapsed)

/-! ## Holds (R99, R100) -/

/-- The holds TLM places. -/
inductive Hold where
  | thermal | rail
  deriving DecidableEq, Repr

def HoldSet.put (x : HoldSet) (h : Hold) (b : Bool) : HoldSet :=
  match h with
  | .thermal => { x with thermal := b }
  | .rail => { x with rail := b }

def Hold.cause : Hold → FaultCause
  | .thermal => .thermal
  | .rail => .rail

/-- The first hold of THERMAL and RAIL that a package carries (R97). -/
def firstHold (s : State) (p : PkgId) : FaultCause := if (s.pkg p).holds.thermal then .thermal else .rail

/-- What a hold does to one channel of its package (R99). -/
def holdChan (h : Hold) (c : ChanId) (s : State) : State :=
  match (s.chan c).state with
  | .enabling | .active | .draining => faultChan c .fault (some h.cause) s
  | .testing => faultChan c .fault (some h.cause) (dropCheck .aborted s)
  | .idle | .fault | .latched => s

/-- A hold enters a package's hold set (R99); a second hold changes nothing else.
DESIGN CHOICE (log entry 9): a swap that the package's faults bring on is taken here, before a RAIL hold reaches the packages after it. -/
def placeHold (h : Hold) (p : PkgId) (s : State) : State :=
  let t := s.updPkg p (fun r => { r with holds := r.holds.put h true })
  if pkgHeld s p then t
  else
    let u := t.eachChan (fun c v => if c.pkg = p then holdChan h c v else v)
    swapAfterFault ((pkgChans p).any (drains s)) (match (u.pkg p).power with
      | .enabling | .on | .retryWait => pkgOff p u
      | .off | .latched => u)

/-- A channel of a package whose hold set has become empty: THERMAL and RAIL faults end, and an IDLE channel is evaluated (R90, R100). -/
def releaseChan (c : ChanId) (s : State) : State :=
  let r := s.chan c
  if r.state = .fault ∧ (r.cause = some .thermal ∨ r.cause = some .rail) then enterIdle c s else evalChan c s

/-- A hold leaves a package's hold set (R100). -/
def removeHold (h : Hold) (p : PkgId) (s : State) : State :=
  let t := s.updPkg p (fun r => { r with holds := r.holds.put h false })
  if pkgHeld s p && !pkgHeld t p then
    settlePkg p (t.eachChan (fun c v => if c.pkg = p then releaseChan c v else v))
  else t

/-! ## What the zones tell ACC -/

/-- A zone has entered PLAYING: its IDLE channels are evaluated, and a line check on one of its channels is ABORTED (R90, R107). -/
def ampPlaying (z : ZoneId) (s : State) : State :=
  s.eachChan (fun c t =>
    if (t.chan c).assign.map (fun a => a.zone) = some z then
      if (t.chan c).state = .testing then enterIdle c (dropCheck .aborted t) else evalChan c t
    else t)

/-- A zone has entered STANDBY: its ACTIVE and ENABLING channels enter IDLE (R13, R91). -/
def ampStandby (z : ZoneId) (s : State) : State :=
  s.eachChan (fun c t =>
    if (t.chan c).assign.map (fun a => a.zone) = some z ∧ ((t.chan c).state = .active ∨ (t.chan c).state = .enabling) then
      enterIdle c t
    else t)

/-! ## READY (R93, R94) -/

/-- A miss: the count increases by 1 and TLM is told, which sets STAGE_SILENT (R93, R127). -/
def countMiss (p : PkgId) (s : State) : State :=
  setFlag (.stageSilent p) (s.updPkg p (fun r => { r with misses := min 4 (r.misses + 1), timer := none }))

/-- A TESTING channel of a package that latched or lost READY: its check ends NOT_AVAILABLE and it enters IDLE (R107). -/
def loseTesting (p : PkgId) (s : State) : State :=
  match s.acc.check with
  | some k => if k.channel.pkg = p then enterIdle k.channel (dropCheck .notAvailable s) else s
  | none => s

/-- The retry wait after a count of 1, 2 or 3 misses or overcurrents, in ms (R93, R96). -/
def retryMs (count : Nat) : Nat := 1000 * 2 ^ (count - 1)

/-- A READY window expires unanswered (R93). -/
def missWindow (p : PkgId) (s : State) : State :=
  let t := countMiss p s
  let n := (t.pkg p).misses
  if n < 4 then t.updPkg p (fun r => { r with power := .retryWait, timer := some (retryMs n) })
  else
    (loseTesting p (forgetEarlier t (t.updPkg p (fun r => { r with power := .latched })))).post (.packageLatched p n) .part

/-- An ON package loses READY (R94). -/
def loseReady (p : PkgId) (s : State) : State :=
  let t := (countMiss p s).updPkg p (fun r => { r with power := .retryWait, timer := some (retryMs 1) })
  let u := t.eachChan (fun c v => if c.pkg = p ∧ (v.chan c).state = .active then setChanState c .enabling none v else v)
  settlePkg p (loseTesting p u)

/-! ## Overcurrent (R96) -/

/-- An overcurrent of an ACTIVE or DRAINING channel: a fault with a retry, or a latch at the fourth (R96). -/
def overcurrentFault (c : ChanId) (s : State) : State :=
  let t := (setFlag (.ocSeen c.pkg) s).updChan c (fun r => { r with freeRun := 0 })
  let n := (t.chan c).retries
  let u :=
    if n < 3 then
      faultChan c .fault (some .overcurrent)
        (t.updChan c (fun r => { r with retries := n + 1, retryWait := some (retryMs (n + 1)) }))
    else (faultChan c .latched none t).post (.channelLatched c n) .part
  swapAfterFault (drains s c) (settlePkg c.pkg u)

/-- An overcurrent on a TESTING channel ends the line check SHORT (R96, R106).
DEDUCED (log entry 21): OC_SEEN is set, with its notice, before the check ends with its REQUEST_DONE and LINE_CHECK. -/
def overcurrentTesting (c : ChanId) (elapsed : Nat) (s : State) : State :=
  let t := setFlag (.ocSeen c.pkg) s
  match t.acc.check with
  | some k => if k.channel = c then endCheck (advanceCounter k.counter elapsed) .short t else t
  | none => t

/-! ## PROT_CLEAR's release of latched faults (R98) -/

/-- A named channel (R98). -/
def clearChan (c : ChanId) (s : State) : State :=
  if (s.chan c).state = .latched then enterIdle c (s.updChan c (fun r => { r with retries := 0, freeRun := 0 })) else s

/-- A named package (R98). -/
def clearPkg (p : PkgId) (s : State) : State :=
  let t := s.updPkg p (fun r => { r with misses := 0 })
  match (s.pkg p).power with
  | .latched => settlePkg p ((pkgOff p t).eachChan (fun c v => if c.pkg = p then evalChan c v else v))
  | .retryWait => if pkgNeeded t p && !pkgHeld t p then pkgStart p t else pkgOff p t
  | .off | .enabling | .on => t

end Sys2Proof.Machine
end

