-- ==== Sys2Proof/Machine/Layout.lean ====
section
/-! DEFINITION. The bytes the part writes: numbers, codes of enumerated values, notice records and result pages (R196, R197, section 10.8).

A field takes the fewest whole bytes that hold its range, most significant byte first; an optional field has a presence byte before it.
An enumerated value is coded from 0 in the order in which its rule or field table lists its values.
-/
namespace Sys2Proof.Machine

/-! ## Numbers -/

def u8 (n : Nat) : List Byte := [BitVec.ofNat 8 n]

def u16 (n : Nat) : List Byte := [BitVec.ofNat 8 (n / 256), BitVec.ofNat 8 n]

def u24 (n : Nat) : List Byte := [BitVec.ofNat 8 (n / 65536), BitVec.ofNat 8 (n / 256), BitVec.ofNat 8 n]

def u32 (n : Nat) : List Byte := u16 (n / 65536) ++ u16 n

/-- A signed value in one byte, two's complement. -/
def s8 (i : Int) : List Byte := [BitVec.ofInt 8 i]

/-- A signed value in two bytes, two's complement. -/
def s16 (i : Int) : List Byte := u16 (BitVec.ofInt 16 i).toNat

def flagByte (b : Bool) : List Byte := [if b then 1 else 0]

/-- An optional field behind its presence byte. -/
def optBytes {α : Type} (f : α → List Byte) : Option α → List Byte
  | none => [0]
  | some a => 1 :: f a

/-- A field that its rule's moment always holds, without a presence byte. -/
def heldBytes {α : Type} (f : α → List Byte) : Option α → List Byte
  | none => []
  | some a => f a

/-- A set as one bit for each member, bit 0 first. -/
def setBits (l : List Bool) : Nat := l.foldr (fun b n => (if b then 1 else 0) + 2 * n) 0

def codeWord (c : BitVec 16) : List Byte := u16 c.toNat

/-! ## Codes of enumerated values -/

def ZoneState.code : ZoneState → Nat
  | .standby => 0 | .switching => 1 | .acquiring => 2 | .playing => 3

def Power.code : Power → Nat
  | .on => 0 | .standby => 1

def WaitReason.code : WaitReason → Nat
  | .lock => 0 | .lost => 1 | .format => 2 | .tuner => 3 | .converter => 4 | .decoder => 5

def ListenMode.code : ListenMode → Nat
  | .direct => 0 | .stereo => 1 | .multi => 2 | .upmix => 3

def LockState.code : LockState → Nat
  | .absent => 0 | .seeking => 1 | .locked => 2 | .backoff => 3 | .lost => 4

def Format.code : Format → Nat
  | .none => 0 | .pcm2 => 1 | .pcmm => 2 | .codedA => 3 | .codedB => 4

def EngineState.code : EngineState → Nat
  | .free => 0 | .loading => 1 | .running => 2

def EngineMode.code : EngineMode → Nat
  | .decode => 0 | .upmix => 1

def EngineFormat.code : EngineFormat → Nat
  | .codedA => 0 | .codedB => 1 | .pcm2 => 2

def ChanState.code : ChanState → Nat
  | .idle => 0 | .enabling => 1 | .active => 2 | .draining => 3 | .fault => 4 | .latched => 5 | .testing => 6

def FaultCause.code : FaultCause → Nat
  | .overcurrent => 0 | .thermal => 1 | .rail => 2

def Verdict.code : Verdict → Nat
  | .short => 0 | .loaded => 1 | .open => 2

def PkgPower.code : PkgPower → Nat
  | .off => 0 | .enabling => 1 | .on => 2 | .retryWait => 3 | .latched => 4

def Heat.code : Heat → Nat
  | .normal => 0 | .warm => 1 | .hot => 2

def TunerState.code : TunerState → Nat
  | .idle => 0 | .tuning => 1 | .seeking => 2 | .scanning => 3 | .afCheck => 4

def SyncState.code : SyncState → Nat
  | .search => 0 | .synced => 1

def AnnState.code : AnnState → Nat
  | .inactive => 0 | .active => 1 | .ending => 2

def Phase.code : Phase → Nat
  | .free => 0 | .queued => 1 | .inFlight => 2 | .done => 3

def FrameOutcome.code : FrameOutcome → Nat
  | .none => 0 | .accepted => 1 | .slotBusy => 2 | .badFrame => 3 | .truncated => 4 | .stalled => 5

def TunedOp.code : TunedOp → Nat
  | .tune => 0 | .seek => 1 | .scan => 2 | .afCheck => 3 | .stop => 4

def AnnCause.code : AnnCause → Nat
  | .holdExpired => 0 | .retune => 1

/-- A flag's number in a FLAG_SET notice: its place in the table of R126. -/
def FlagId.code : FlagId → Nat
  | .warnSeen _ => 0 | .tripSeen _ => 1 | .stageSilent _ => 2 | .ocSeen _ => 3
  | .railLow => 4 | .railHigh => 5 | .fan0Stall => 6 | .fan1Stall => 7

def NoticeClass.code : NoticeClass → Nat
  | .zone => 0 | .source => 1 | .tuner => 2 | .protect => 3 | .link => 4

/-- The ZONE and TUNED notice kinds and the rest, numbered within their class (section 10.8). -/
def NoticeBody.kindCode : NoticeBody → Nat
  | .zoneState .. => 0 | .zoneWait .. => 1 | .zoneSource .. => 2 | .zoneVolume .. => 3 | .zoneMute .. => 4 | .zoneSleep .. => 5
  | .srcLockLost .. => 0 | .srcLost .. => 1 | .srcFormat .. => 2
  | .tuned .. => 0 | .region .. => 1 | .stationName .. => 2 | .announceStart .. => 3 | .announceEnd .. => 4
  | .channelLatched .. => 0 | .packageLatched .. => 1 | .lineCheck .. => 2 | .flagSet .. => 3
  | .requestDone .. => 0 | .resetDone => 1 | .keypadOverrun .. => 2 | .keyStuck .. => 3

end Sys2Proof.Machine

namespace Sys2Proof

def Origin.code : Origin → Nat
  | .s => 0 | .n => 1 | .k => 2 | .part => 3

def SrcKind.code : SrcKind → Nat
  | .digital => 0 | .multi => 1 | .analog => 2 | .tuner => 3 | .network => 4

def Rate.code : Rate → Nat
  | .r32 => 0 | .r44 => 1 | .r48 => 2 | .r88 => 3 | .r96 => 4 | .r176 => 5 | .r192 => 6

def CodedKind.code : CodedKind → Nat
  | .a => 0 | .b => 1

def Band.code : Band → Nat
  | .fm => 0 | .am => 1

/-- The code of a role in an AMP_ASSIGN entry (R197). -/
def SpkRole.code : SpkRole → Nat
  | .fl => 0 | .fr => 1 | .c => 2 | .sl => 3 | .sr => 4 | .sbl => 5
  | .sbr => 6 | .hl => 7 | .hr => 8 | .l => 9 | .r => 10

def ZoneSet.bits (x : ZoneSet) : Nat := Machine.setBits [x.main, x.z2, x.z3]

def RoleSet.bits (x : RoleSet) : Nat :=
  Machine.setBits [x.fl, x.fr, x.c, x.lfe, x.sl, x.sr, x.sbl, x.sbr, x.hl, x.hr]

def SensorSet.bits (x : SensorSet) : Nat := Machine.setBits [x.t0, x.t1, x.t2, x.t3, x.th]

def PkgSet.bools (x : PkgSet) : List Bool := [x.p0, x.p1, x.p2, x.p3]

/-- The twenty flags as bits: the package flags of each row of R126 in package order, then the global ones. -/
def FlagSet.bits (x : FlagSet) : Nat :=
  Machine.setBits (x.warnSeen.bools ++ x.tripSeen.bools ++ x.stageSilent.bools ++ x.ocSeen.bools ++
    [x.railLow, x.railHigh, x.fan0Stall, x.fan1Stall])

/-- The permission set byte of READ_LINK (section 10.8). -/
def PermSet.bits (x : PermSet) : Nat :=
  Machine.setBits [x.zoneMain, x.zone2, x.zone3, x.tuner, x.config, x.protectClear]

/-- The notice mask byte of READ_LINK (section 10.8). -/
def ClassSet.bits (x : ClassSet) : Nat := Machine.setBits [x.zone, x.source, x.tuner, x.protect, x.link]

end Sys2Proof

namespace Sys2Proof.Machine

/-! ## Notice records -/

/-- Byte 2 of a notice: the zone, source, package, channel, fan or slot it concerns.
DEDUCED (log entry 18): KEYPAD_OVERRUN and KEY_STUCK hold their keypad id here, which section 10.8 does not list, and the key code alone in the value. -/
def NoticeBody.subject : NoticeBody → Nat
  | .zoneState z _ _ | .zoneWait z _ | .zoneSource z _ | .zoneVolume z _ | .zoneMute z _ | .zoneSleep z _ _ => z.idx
  | .srcLockLost x _ | .srcLost x _ | .srcFormat x _ _ _ _ => x.id
  | .tuned .. | .region .. | .stationName .. | .announceStart .. | .announceEnd .. => 0
  | .channelLatched c _ | .lineCheck c _ _ => c.idx
  | .packageLatched p _ => p.idx
  | .flagSet (.warnSeen p) | .flagSet (.tripSeen p) | .flagSet (.stageSilent p) | .flagSet (.ocSeen p) => p.idx
  | .flagSet .fan1Stall => 1
  | .flagSet _ => 0
  | .requestDone i _ _ _ => i
  | .resetDone => 0
  | .keypadOverrun k _ | .keyStuck k _ => k

/-- Byte 4 of a notice: bit 0 expiry, bit 1 broken, bit 2 channel changed. -/
def NoticeBody.flagBits : NoticeBody → Nat
  | .zoneSleep _ _ e => if e then 1 else 0
  | .srcFormat _ _ _ _ b => if b then 2 else 0
  | .tuned _ _ _ _ _ c => if c then 4 else 0
  | _ => 0

/-- Bytes 6 to 15 of a notice, before the zeros that fill them: the value column of the rule that posts it.
DEDUCED (log entry 18): an ACQUIRING STATE and a FORMAT notice carry the fields that may be absent behind presence bytes, a field that is always held stands bare; the channel count, region step and raster are numbers; the status of TUNED is the status number of a result slot. -/
def NoticeBody.value : NoticeBody → List Byte
  | .zoneState _ st r => u8 st.code ++ (if st = .acquiring then optBytes (fun x => u8 (WaitReason.code x)) r else [])
  | .zoneWait _ r => heldBytes (fun x => u8 (WaitReason.code x)) r
  | .zoneSource _ x => u8 x.id
  | .zoneVolume _ v => s16 v
  | .zoneMute _ m => flagByte m
  | .zoneSleep _ m _ => u8 m
  | .srcLockLost _ r => heldBytes (fun x => u8 (Rate.code x)) r
  | .srcLost _ n => u8 n
  | .srcFormat _ f ch r _ => u8 f.code ++ optBytes u8 ch ++ optBytes (fun x => u8 (Rate.code x)) r
  | .tuned b ch q op st _ => u8 b.code ++ u16 ch ++ u8 q ++ u8 op.code ++ [st.code]
  | .region st ra => u8 st ++ u8 ra
  | .stationName c n => codeWord (c.getD 0) ++ n
  | .announceStart k c t => u8 k ++ codeWord c ++ u8 t.bits
  | .announceEnd k t => u8 k.code ++ u8 t.bits
  | .channelLatched _ n => u8 n
  | .packageLatched _ n => u8 n
  | .lineCheck _ n v => u16 n ++ u8 v.code
  | .flagSet f => u8 f.code
  | .requestDone _ k t st => [k, t, st.code]
  | .resetDone => []
  | .keypadOverrun _ c | .keyStuck _ c => u8 c

/-- The sixteen bytes of a notice record (section 10.8). -/
def Notice.bytes (n : Notice) : List Byte :=
  u8 n.body.cls.code ++ u8 n.body.kindCode ++ u8 n.body.subject ++ u8 n.origin.code ++ u8 n.body.flagBits ++
    u8 n.seq.val ++ fitBytes 10 n.body.value

/-! ## Result pages (R196) -/

/-- The result bytes of one page. -/
def pageBytes : Nat := 11

/-- The number of the final page of a result. -/
def lastPage (data : List Byte) : Nat := (data.length - 1) / pageBytes

/-- A query answers with one page of its result; a page beyond the final one is BAD_ARGUMENT (R196). -/
def answerPage (data : List Byte) (page : Nat) : Reply :=
  if page ≤ lastPage data then
    .done .ok (BitVec.ofNat 8 (if page = lastPage data then page + 128 else page))
      ((data.drop (pageBytes * page)).take pageBytes)
  else .plain .badArgument

end Sys2Proof.Machine
end

