-- ==== Sys2Proof/Machine/Thermal.lean ====
section
/-! DEFINITION. The Thermal and Load Monitor: readings, limits, package heat and derate, the rail, the clip guard and its requests (R112 to R132). -/
namespace Sys2Proof.Machine

/-! ## Measurements (R112 to R114) -/

/-- The largest sample of an input's class (R112). -/
def sampleMax : Sensor → Nat
  | .t0 | .t1 | .t2 | .t3 | .th => 511
  | .vr => 1023

/-- The averaging count of an input's class (R115). -/
def avgCount (m : Limits) : Sensor → Nat
  | .t0 | .t1 | .t2 | .t3 | .th => m.tempN
  | .vr => m.railN

/-- The average that becomes the reading (R113). -/
def average (sum n : Nat) : Nat := (sum + n / 2) / n

/-- One input takes one sample; a full set of samples makes a reading due (R113). -/
def takeSample (x : SensorSamples) (i : Sensor) (s : State) : State :=
  let m := s.meas i
  let n := avgCount s.tlm.limits i
  let sum := m.sum + min (sampleMax i) (x.get i)
  if n ≤ m.count + 1 then s.setMeas i { m with sum := 0, count := 0, due := some (average sum n) }
  else s.setMeas i { m with sum := sum, count := m.count + 1 }

/-- The sampling timer expires: all six inputs are sampled and the timer restarts (R113). -/
def sampleAll (x : SensorSamples) (s : State) : State :=
  let t := Sensor.all.foldl (fun t i => takeSample x i t) s
  { t with tlm := { t.tlm with samplingTimer := 10 } }

/-- A reading, while it is valid. -/
def validReading (s : State) (i : Sensor) : Option Nat := if (s.meas i).valid then some (s.meas i).reading else none

/-- Whether a valid reading stands at or above a limit. -/
def atLeast (r : Option Nat) (limit : Nat) : Bool :=
  match r with
  | none => false
  | some v => decide (limit ≤ v)

/-- Whether a valid reading stands at or below a limit less a hysteresis. -/
def coolAt (r : Option Nat) (limit hyst : Nat) : Bool :=
  match r with
  | none => false
  | some v => decide (v + hyst ≤ limit)

/-! ## Package heat (R117 to R120) -/

/-- A condition that begins at one comparison and ends at another. -/
def conditionNext (now begins ends : Bool) : Bool := if now then !ends else begins

/-- The heatsink conditions are judged (R117). -/
def judgeHeatsink (s : State) : State :=
  let r := validReading s .th
  let m := s.tlm.limits
  let cool := coolAt r m.hsWarn m.hsHyst
  { s with tlm := { s.tlm with
      hsWarm := conditionNext s.tlm.hsWarm (atLeast r m.hsWarn) cool
      hsTrip := conditionNext s.tlm.hsTrip (atLeast r m.hsTrip) cool } }

/-- Whether a stalled fan forces a package: its sensor set holds the package's own input or TH (R118). -/
def stallForces (s : State) (p : PkgId) : Bool :=
  FanId.all.any (fun f => (s.fan f).stalled && ((s.fan f).set.sensors.has p.sensor || (s.fan f).set.sensors.th))

/-- Whether a package is under warm forcing (R118). -/
def warmForcing (s : State) (p : PkgId) : Bool :=
  atLeast (validReading s p.sensor) s.tlm.limits.pkgWarn || s.tlm.hsWarm || stallForces s p

/-- The thermal state a package takes at a judgement (R119). -/
def heatNext (s : State) (p : PkgId) : Heat :=
  let own := validReading s p.sensor
  let trip := atLeast own s.tlm.limits.pkgTrip || s.tlm.hsTrip
  let cool := coolAt own s.tlm.limits.pkgWarn s.tlm.limits.pkgHyst
  let warm := warmForcing s p
  match (s.heat p).heat with
  | .normal => if trip then .hot else if warm then .warm else .normal
  | .warm => if trip then .hot else if cool && !warm then .normal else .warm
  | .hot => if cool && !s.tlm.hsTrip then (if warm then .warm else .normal) else .hot

/-- The period of the derate timer in a thermal state, in ms (R121). -/
def deratePeriod : Heat → Nat
  | .normal => 2000
  | .warm | .hot => 500

/-- A package takes a thermal state; its derate timer restarts between NORMAL and the other two (R121). -/
def setHeatState (p : PkgId) (h : Heat) (s : State) : State :=
  let r := s.heat p
  s.setHeat p { r with
    heat := h
    timer := if (r.heat = .normal) = (h = .normal) then r.timer else deratePeriod h }

/-- A package's thermal state is judged (R119, R120). -/
def judgePkg (p : PkgId) (s : State) : State :=
  let old := (s.heat p).heat
  let new := heatNext s p
  if old = new then s
  else
    let t := setHeatState p new s
    let u := if old = .normal then setFlag (.warnSeen p) t else t
    let v := if new = .hot then placeHold .thermal p (setFlag (.tripSeen p) u) else u
    if old = .hot then removeHold .thermal p v else v

/-- FNC reports about a fan: every package its stall can force is judged, its sensor set before and after counting (R127). -/
def judgeForFan (before after : SensorSet) (s : State) : State :=
  s.eachPkg (fun p t =>
    if before.th || after.th || before.has p.sensor || after.has p.sensor then judgePkg p t else t)

/-! ## The rail (R122) -/

/-- The rail is judged (R122). -/
def judgeRail (s : State) : State :=
  let r := validReading s .vr
  let m := s.tlm.limits
  let low := conditionNext s.tlm.railLow (match r with | none => false | some v => decide (v ≤ m.railLow))
    (atLeast r (m.railLow + m.railHyst))
  let high := conditionNext s.tlm.railHigh (atLeast r m.railHigh) (coolAt r m.railHigh m.railHyst)
  let t : State := { s with tlm := { s.tlm with railLow := low, railHigh := high } }
  let u := if low && !s.tlm.railLow then setFlag .railLow t else t
  let v := if high && !s.tlm.railHigh then setFlag .railHigh u else u
  match s.tlm.railLow || s.tlm.railHigh, low || high with
  | false, true => v.eachPkg (placeHold .rail)
  | true, false => v.eachPkg (removeHold .rail)
  | _, _ => v

/-- TLM judges a reading update (R113, R118, R122). -/
def judgeUpdate (i : Sensor) (s : State) : State :=
  match i with
  | .t0 => judgePkg .p0 s
  | .t1 => judgePkg .p1 s
  | .t2 => judgePkg .p2 s
  | .t3 => judgePkg .p3 s
  | .th => (judgeHeatsink s).eachPkg judgePkg
  | .vr => judgeRail s

/-- A reading that is due becomes the reading of its input (R113). -/
def takeReading (i : Sensor) (v : Nat) (s : State) : State :=
  s.setMeas i { s.meas i with reading := v, valid := true, due := none }

/-! ## Limits (R115, R116) -/

/-- Whether an averaging count is allowed. -/
def countAllowed (n : Nat) : Bool := n == 1 || n == 4 || n == 16 || n == 32

/-- Whether a limit set passes the checks of R116. -/
def limitsValid (m : Limits) : Bool :=
  decide (m.pkgWarn ≤ 511 ∧ m.pkgTrip ≤ 511 ∧ m.pkgHyst ≤ 255 ∧ m.hsWarn ≤ 511 ∧ m.hsTrip ≤ 511 ∧ m.hsHyst ≤ 255) &&
  decide (m.railLow ≤ 1023 ∧ m.railHigh ≤ 1023 ∧ m.railHyst ≤ 255) &&
  countAllowed m.tempN && countAllowed m.railN &&
  decide (m.pkgWarn < m.pkgTrip ∧ m.pkgHyst < m.pkgTrip - m.pkgWarn) &&
  decide (m.hsWarn < m.hsTrip ∧ m.hsHyst < m.hsTrip - m.hsWarn) &&
  decide (m.railLow < m.railHigh ∧ 2 * m.railHyst < m.railHigh - m.railLow)

/-- A changed averaging count discards the partial averages of its class (R114). -/
def discardAverage (old new : Limits) (i : Sensor) (s : State) : State :=
  if avgCount old i = avgCount new i then s else s.setMeas i { s.meas i with sum := 0, count := 0 }

/-- The limit set is replaced, and every package and the rail are judged against it (R116). -/
def replaceLimits (m : Limits) (s : State) : State :=
  let t := Sensor.all.foldl (fun t i => discardAverage s.tlm.limits m i t) s
  judgeRail ((judgeHeatsink { t with tlm := { t.tlm with limits := m } }).eachPkg judgePkg)

/-- PROT_LIMITS (R116). -/
def protLimits (m : Limits) (s : State) : State × Reply :=
  if s.tlm.lock then (s, .plain .locked)
  else if limitsValid m then (replaceLimits m s, .plain .ok)
  else (s, .plain .badArgument)

/-! ## Derate steps (R121) -/

/-- The derate after the expiry of the derate timer. -/
def derateNext : Heat → Int → Int
  | .normal, p => if p < 0 then p + 1 else p
  | .warm, p | .hot, p => if -40 < p then p - 1 else p

/-- The derate timer of a package expires (R121). -/
def derateStep (p : PkgId) (s : State) : State :=
  let r := s.heat p
  s.setHeat p { r with derate := derateNext r.heat r.derate, timer := deratePeriod r.heat }

/-! ## Clip guard (R123 to R125) -/

/-- The sum of the clip counts of a zone's outputs (R124). -/
def clipSum (s : State) (z : ZoneId) : Nat := (zoneOuts s z).foldl (fun n o => n + (s.lev o).clips) 0

/-- The clip guard record after a window with a clip sum (R124). -/
def guardNext (g : ClipGuard) (sum : Nat) : ClipGuard :=
  if g.limit ≠ 0 ∧ g.limit ≤ sum then { g with guard := if -12 < g.guard then g.guard - 1 else g.guard, quiet := 0 }
  else if g.quiet + 1 < 10 then { g with quiet := g.quiet + 1 }
  else { g with quiet := 0, guard := if g.guard < 0 then g.guard + 1 else g.guard }

/-- The end of a zone's clip window: the counts are read and cleared and the guard judged, all in one event (R80, R123, R124). -/
def endClipWindow (z : ZoneId) (s : State) : State :=
  let sum := clipSum s z
  let t := s.eachOut (fun o t => if outZone s o = some z then clearClips o t else t)
  t.setGuard z { guardNext (s.guard z) sum with pos := 0 }

/-- CLIP_GUARD (R125). -/
def clipGuard (z : ZoneId) (limit : Nat) (s : State) : State × Reply :=
  if s.tlm.lock then (s, .plain .locked)
  else if limit ≤ 65535 then (s.setGuard z { s.guard z with limit := limit }, .plain .ok)
  else (s, .plain .badArgument)

/-! ## PROT_LOCK, PROT_CLEAR, PROT_QUERY -/

/-- PROT_LOCK (R129). -/
def protLock (s : State) : State × Reply := ({ s with tlm := { s.tlm with lock := true } }, .plain .ok)

/-- PROT_CLEAR's first part: ACC releases the named channels and packages (R98, R128). -/
def releaseLatched (a : ClearArgs) (s : State) : State :=
  (s.eachChan (fun c t => if a.channels.contains c then clearChan c t else t)).eachPkg
    (fun p t => if a.packages.has p then clearPkg p t else t)

/-- PROT_CLEAR (R128). -/
def protClear (a : ClearArgs) (s : State) : State × Reply :=
  let t := FlagId.all.foldl (fun t f => clearFlag a.flags f t) (releaseLatched a s)
  (t, .done .ok 0 (u24 t.tlm.flags.bits))

/-- The limit set in a PROT_QUERY result.
DEDUCED (log entry 17): the two averaging counts are returned as their numbers. -/
def limitsBytes (m : Limits) : List Byte :=
  u16 m.pkgWarn ++ u16 m.pkgTrip ++ u8 m.pkgHyst ++ u16 m.hsWarn ++ u16 m.hsTrip ++ u8 m.hsHyst ++
    u16 m.railLow ++ u16 m.railHigh ++ u8 m.railHyst ++ u8 m.tempN ++ u8 m.railN

/-- An input's reading and its validity, two plain fields; the reading is given as 0 while it is not valid.
DEDUCED (log entry 17): R112 names the two fields, no rule their bytes. -/
def readingBytes (s : State) (i : Sensor) : List Byte :=
  u16 (if (s.meas i).valid then (s.meas i).reading else 0) ++ flagByte (s.meas i).valid

/-- The result of a PROT_QUERY (R130), coded by R196.
DEDUCED (log entry 17): a heatsink or rail condition is coded 1 for present and 0 for absent. -/
def protResult (s : State) : List Byte :=
  Sensor.all.flatMap (readingBytes s) ++ limitsBytes s.tlm.limits ++ flagByte s.tlm.lock ++
    PkgId.all.flatMap (fun p => u8 (s.heat p).heat.code ++ s8 (s.heat p).derate ++ u16 (s.heat p).timer) ++
    flagByte s.tlm.hsWarm ++ flagByte s.tlm.hsTrip ++ flagByte s.tlm.railLow ++ flagByte s.tlm.railHigh ++
    ZoneId.all.flatMap (fun z =>
      s8 (s.guard z).guard ++ u16 (s.guard z).limit ++ u8 (s.guard z).quiet ++ u24 (s.guard z).pos) ++
    u24 s.tlm.flags.bits

/-- PROT_QUERY (R130). -/
def protQuery (page : Nat) (s : State) : State × Reply := (s, answerPage (protResult s) page)

end Sys2Proof.Machine
end

