-- ==== Sys2Proof/Machine/Fan.lean ====
section
/-! DEFINITION. The Fan Controller: curve, duty ramp, spin-up, tach measurement, stall and its requests (R133 to R143). -/
namespace Sys2Proof.Machine

/-- The output duty of a fan (R133). -/
def FanRec.outDuty (r : FanRec) : Nat := if r.spinUp.isSome then 255 else r.current

/-- Whether a measurement hold is in force (R137). -/
def FanRec.holding (r : FanRec) : Bool :=
  match r.meas with
  | none => false
  | some m => m.hold

/-- What the PWM output of a fan carries, in 255ths of its period: fully on during a measurement hold, else the output duty (R133, R137). -/
def FanRec.pwm (r : FanRec) : Nat := if r.holding then 255 else r.outDuty

/-- The driving temperature of a fan: the highest valid reading of its sensor set (R134). -/
def drivingTemp (s : State) (f : FanId) : Option Nat :=
  Sensor.all.foldl (fun best i =>
    if (s.fan f).set.sensors.has i then
      match validReading s i, best with
      | none, b => b
      | some v, none => some v
      | some v, some b => some (max v b)
    else best) none

/-- The target duty the curve gives for a driving temperature (R134). -/
def curveDuty (k : FanSettings) (t : Option Nat) : Nat :=
  match t with
  | none => if k.stopAllowed then 0 else k.d1
  | some v =>
    if v < k.t1 then (if k.stopAllowed then 0 else k.d1)
    else if v < k.t2 then k.d1 + (k.d2 - k.d1) * (v - k.t1) / (k.t2 - k.t1)
    else if v < k.t3 then k.d2 + (255 - k.d2) * (v - k.t2) / (k.t3 - k.t2)
    else 255

/-! ## Measurements (R137) -/

/-- A measurement as it begins at an output duty above 0 (R137). -/
def measStart (k : FanSettings) (duty : Nat) : TachMeas where
  hold := decide (duty < 255)
  guardLeft := if duty < 255 then some k.guard else none
  skip := if k.ignoreEdges then 3 else 0
  edges := 0
  count := 0

/-- A measurement begins. -/
def FanRec.measBegin (r : FanRec) : FanRec := { r with meas := some (measStart r.set r.outDuty) }

/-- A measurement in progress ends incomplete (R137). -/
def FanRec.measAbandon (r : FanRec) : FanRec :=
  match r.meas with
  | none => r
  | some m => { r with meas := none, partialEdges := max r.partialEdges m.edges }

/-- What an output duty leaving 0 or falling to 0 does to the measurement (R137). -/
def FanRec.afterDuty (r : FanRec) (old : Nat) : FanRec :=
  if old = 0 ∧ 0 < r.outDuty ∧ r.meas = none then r.measBegin
  else if 0 < old ∧ r.outDuty = 0 then r.measAbandon
  else r

/-- The counter limit of a measurement (R137). -/
def tachCountMax : Nat := 65533

/-- A falling edge of the tach input during a measurement, some counter periods after the last counted edge (R137).
A count that has passed 65,533 at the E-th edge, or reached it at an earlier one, has ended the measurement incomplete.
DEDUCED (log entry 34): where a period holds several completed measurements, the later one's count stands at its expiry. -/
def FanRec.edge (r : FanRec) (m : TachMeas) (periods : Nat) : FanRec :=
  if m.guardLeft.isSome then r
  else if 0 < m.skip then { r with meas := some { m with skip := m.skip - 1 } }
  else if m.edges = 0 then { r with meas := some { m with edges := 1, count := 0 } }
  else
    let n := m.count + periods
    if r.set.edges ≤ m.edges + 1 ∧ n ≤ tachCountMax then { r with meas := none, done := some (max 1 n) }
    else if m.edges + 1 < r.set.edges ∧ n < tachCountMax then { r with meas := some { m with edges := m.edges + 1, count := n } }
    else r.measAbandon

/-! ## Target and spin-up (R134 to R136) -/

/-- A target is computed, with R135 and R136 acting on the result. -/
def FanRec.retarget (r : FanRec) (target : Nat) : FanRec :=
  if target = 0 then
    { r with target := 0, spinUp := none, current := if r.set.snapToZero then 0 else r.current }
  else if r.current = 0 ∧ r.spinUp = none then { r with target := target, spinUp := some r.set.spinUpTime }
  else { r with target := target }

/-- FNC computes a fan's target from the readings as they stand (R134). -/
def computeTarget (f : FanId) (s : State) : State :=
  let r := s.fan f
  s.setFan f ((r.retarget (curveDuty r.set (drivingTemp s f))).afterDuty r.outDuty)

/-- A reading update is handed to FNC (R134). -/
def fanUpdate (i : Sensor) (s : State) : State :=
  FanId.all.foldl (fun t f => if (t.fan f).set.sensors.has i then computeTarget f t else t) s

/-- The end of a spin-up: the current duty takes the target as it stands (R136). -/
def FanRec.endSpinUp (r : FanRec) : FanRec := { r with spinUp := none, current := r.target }

/-- A duty moved toward its target by at most the ramp rate (R135). -/
def dutyToward (current target rate : Nat) : Nat :=
  if current < target then min target (current + rate)
  else if target < current then max target (current - rate) else current

/-- A duty step of one fan (R135). -/
def FanRec.dutyStep (r : FanRec) : FanRec :=
  if r.spinUp.isSome then r
  else ({ r with current := dutyToward r.current r.target r.set.rampRate } : FanRec).afterDuty r.outDuty

/-! ## Reading updates and stall (R138, R139) -/

/-- The tach reading of a period (R138). -/
def FanRec.periodReading (r : FanRec) : Nat :=
  match r.done with
  | some n => n
  | none => if 0 < r.partialEdges ∧ r.set.slowMarking = true then 0xFFFE else 0xFFFF

/-- Whether a tach reading is valid (R138). -/
def readingValid (n : Nat) : Bool := decide (n < 0xFFFE)

/-- The stall run and condition after a reading update (R139). -/
def FanRec.stallNext (r : FanRec) : Nat × Bool :=
  if r.outDuty = 0 ∨ (readingValid r.reading = true ∧ r.reading ≤ r.set.tachLimit) then (0, false)
  else if r.spinUp.isSome then (r.stallRun, r.stalled)
  else (min 3 (r.stallRun + 1), r.stalled || decide (3 ≤ r.stallRun + 1))

/-- The sticky flag of a fan. -/
def stallFlag : FanId → FlagId
  | .f0 => .fan0Stall
  | .f1 => .fan1Stall

/-- FNC judges a fan's stall and reports a beginning or an end to TLM (R127, R139). -/
def judgeStall (f : FanId) (s : State) : State :=
  let r := s.fan f
  let n := r.stallNext
  let t := s.setFan f { r with stallRun := n.1, stalled := n.2 }
  if r.stalled = n.2 then t
  else judgeForFan r.set.sensors r.set.sensors (if n.2 then setFlag (stallFlag f) t else t)

/-- Spin-up reduction at a reading update (R136). -/
def FanRec.reduceSpinUp (r : FanRec) : FanRec :=
  if r.spinUp.isSome ∧ r.set.spinUpReduction = true ∧ readingValid r.reading = true ∧ r.reading ≤ r.set.tachLimit then
    r.endSpinUp.afterDuty r.outDuty
  else r

/-- A new update period begins, with a measurement if the output duty is above 0 (R137). -/
def FanRec.newPeriod (r : FanRec) : FanRec :=
  let t := { r with meas := none, done := none, partialEdges := 0, tachTimer := r.set.period }
  if 0 < t.outDuty then t.measBegin else t

/-- The tach update timer of a fan expires (R137 to R139).
DEDUCED (log entry 34): spin-up reduction (R136) acts before the measurement of this expiry begins, which thus has the hold and guard of the new output duty. -/
def tachUpdate (f : FanId) (s : State) : State :=
  let r := (s.fan f).measAbandon
  let t := judgeStall f (s.setFan f { r with reading := r.periodReading })
  t.setFan f (t.fan f).reduceSpinUp.newPeriod

/-! ## FAN_CURVE and FAN_QUERY -/

/-- Whether the settings of a FAN_CURVE pass the checks of R140. -/
def fanSettingsValid (a : FanSettings) : Bool :=
  decide (a.t1 ≤ 511 ∧ a.t2 ≤ 511 ∧ a.t3 ≤ 511 ∧ a.d1 ≤ 255 ∧ a.d2 ≤ 255) &&
  decide (1 ≤ a.rampRate ∧ a.rampRate ≤ 255) && decide (250 ≤ a.spinUpTime ∧ a.spinUpTime ≤ 2000) &&
  decide (1 ≤ a.tachLimit ∧ a.tachLimit ≤ 65533) && decide (a.t1 < a.t2 ∧ a.t2 < a.t3 ∧ a.d1 ≤ a.d2) &&
  (a.edges == 2 || a.edges == 3 || a.edges == 5 || a.edges == 9) &&
  (a.guard == 8 || a.guard == 16 || a.guard == 32 || a.guard == 63) &&
  (a.period == 300 || a.period == 500 || a.period == 1000)

/-- Whether a FAN_CURVE changes a tach setting that restarts the measurement (R137). -/
def tachChanged (a b : FanSettings) : Bool :=
  !(a.edges == b.edges && a.guard == b.guard && a.ignoreEdges == b.ignoreEdges && a.slowMarking == b.slowMarking &&
    a.period == b.period)

/-- A valid FAN_CURVE acts (R140). -/
def replaceCurve (f : FanId) (a : FanSettings) (s : State) : State :=
  let old := (s.fan f).set
  let t := s.setFan f { s.fan f with set := a }
  let u := computeTarget f (if old.sensors = a.sensors then t else judgeForFan old.sensors a.sensors t)
  if tachChanged old a then u.setFan f (u.fan f).newPeriod else u

/-- FAN_CURVE (R140). -/
def fanCurve (code : Nat) (a : FanSettings) (s : State) : State × Reply :=
  if s.tlm.lock then (s, .plain .locked)
  else
    match fanOfCode code with
    | none => (s, .plain .badArgument)
    | some f => if fanSettingsValid a then (replaceCurve f a s, .plain .ok) else (s, .plain .badArgument)

/-- The speed in revolutions per minute (R141). -/
def fanSpeed (r : FanRec) : Nat := if readingValid r.reading then 3000000 * (r.set.edges - 1) / r.reading else 0

def fanSettingsBytes (k : FanSettings) : List Byte :=
  u8 k.sensors.bits ++ u16 k.t1 ++ u8 k.d1 ++ u16 k.t2 ++ u8 k.d2 ++ u16 k.t3 ++ flagByte k.stopAllowed ++
    u8 k.rampRate ++ flagByte k.snapToZero ++ u16 k.spinUpTime ++ flagByte k.spinUpReduction ++ u8 k.edges ++ u8 k.guard ++
    flagByte k.ignoreEdges ++ flagByte k.slowMarking ++ u16 k.period ++ u16 k.tachLimit

/-- The result of a FAN_QUERY (R141), coded by R196.
DEDUCED (log entry 17): the stall condition is coded 1 for present and 0 for absent, the driving temperature as an optional field, and E, guard and update period as their numbers. -/
def fanResult (s : State) (f : FanId) : List Byte :=
  let r := s.fan f
  fanSettingsBytes r.set ++ u8 r.target ++ u8 r.current ++ optBytes u16 r.spinUp ++ u16 r.reading ++ u8 r.stallRun ++
    flagByte r.stalled ++ u8 r.outDuty ++ flagByte r.holding ++
    optBytes u16 (drivingTemp s f) ++ u32 (fanSpeed r)

/-- FAN_QUERY (R141). -/
def fanQuery (code page : Nat) (s : State) : State × Reply :=
  match fanOfCode code with
  | none => (s, .plain .badArgument)
  | some f => (s, answerPage (fanResult s f) page)

end Sys2Proof.Machine
end

