-- ==== Sys2Proof/Machine/SlotEncode.lean ====
section
/-! DEFINITION. The request data of each kind: the bytes a request row stands for, which its slots carry from byte 5 of the first one on (R197).

They are the bytes that `SlotDecode.lean` reads.
-/
namespace Sys2Proof.Machine

/-- A volume behind its selector byte (R15, R197).
DEDUCED (log entry 16): the relative step, which R15 gives no range, takes two bytes like the absolute volume. -/
def volumeData : VolumeArg → List Byte
  | .absolute v => u8 0 ++ s16 v
  | .relative d => u8 1 ++ s16 d

def muteData : MuteArg → List Byte
  | .on => u8 0
  | .off => u8 1
  | .toggle => u8 2

def bassData (a : BassArgs) : List Byte :=
  u8 a.front ++ u8 a.centre ++ u8 a.surround ++ u8 a.back ++ u8 a.height ++ u8 a.crossover ++ flagByte a.sub

def downmixData (a : DownmixArgs) : List Byte := u8 a.c ++ u8 a.s ++ u8 a.b ++ u8 a.h ++ flagByte a.pad

/-- A list behind its count byte. -/
def listData {α : Type} (f : α → List Byte) (l : List α) : List Byte := u8 l.length ++ l.flatMap f

/-- An AMP_ASSIGN entry: the channel, the zone with 0xFF for unassigned, the role.
DEDUCED (log entry 16): an unassigned entry carries 0 in its role byte, of which nothing is made. -/
def assignData (e : AssignEntry) : List Byte :=
  u8 e.channel ++ (match e.target with
    | none => u8 255 ++ u8 0
    | some (z, r) => u8 z ++ u8 r)

/-- The limits of a PROT_LIMITS.
DEDUCED (log entry 16): the two averaging counts are carried as their numbers. -/
def limitsData (a : Limits) : List Byte :=
  u16 a.pkgWarn ++ u16 a.pkgTrip ++ u8 a.pkgHyst ++ u16 a.hsWarn ++ u16 a.hsTrip ++ u8 a.hsHyst ++ u16 a.railLow ++
    u16 a.railHigh ++ u8 a.railHyst ++ u8 a.tempN ++ u8 a.railN

/-- The channels a PROT_CLEAR names, one bit each. -/
def chanBits (l : List ChanId) : Nat := setBits (ChanId.all.map (fun c => l.contains c))

def clearData (a : ClearArgs) : List Byte := u24 a.flags.bits ++ u16 (chanBits a.channels) ++ u8 (setBits a.packages.bools)

def fanData (k : FanSettings) : List Byte :=
  u8 k.sensors.bits ++ u16 k.t1 ++ u8 k.d1 ++ u16 k.t2 ++ u8 k.d2 ++ u16 k.t3 ++ flagByte k.stopAllowed ++
    u8 k.rampRate ++ flagByte k.snapToZero ++ u16 k.spinUpTime ++ flagByte k.spinUpReduction ++ u8 k.edges ++ u8 k.guard ++
    flagByte k.ignoreEdges ++ flagByte k.slowMarking ++ u16 k.period ++ u16 k.tachLimit

def filterData (home : Option (BitVec 16)) (mask : BitVec 32) (acceptAll : Bool) : List Byte :=
  (match home with
    | some c => u8 0 ++ codeWord c
    | none => u8 1) ++ u32 mask.toNat ++ flagByte acceptAll

/-- A PRESET_UPLOAD entry, in the eleven bytes its slot has for it (section 10.8). -/
def uploadEntry (e : UploadEntry) : List Byte :=
  fitBytes 11 (u8 e.index ++ (match e.content with
    | none => u8 0
    | some (b, f, n) => u8 1 ++ u8 b ++ u16 f ++ optBytes (listData (fun c => [c])) n))

/-- The entries of a PRESET_UPLOAD, one to a slot: eleven bytes in the first, eleven of fourteen in each other (section 10.8). -/
def uploadData : List UploadEntry → List Byte
  | [] => []
  | e :: l => uploadEntry e ++ l.flatMap (fun x => fitBytes 14 (uploadEntry x))

/-- The start index, the count and as many entries as the count says. -/
def keymapData (start count : Nat) (l : List KeyEntryArg) : List Byte :=
  u8 start ++ u8 count ++ (l.take count).flatMap (fun e => u8 e.action ++ u8 e.arg)

/-- Whether request data find room in a number of slots: eleven bytes in the first and fourteen in each other (R189, section 10.8). -/
def dataFits (slots : Nat) (data : List Byte) : Bool := decide (data.length ≤ 11 + 14 * (slots - 1))

end Sys2Proof.Machine
end

