-- ==== Sys2Proof/Machine/AmpRequests.lean ====
section
/-! DEFINITION. The requests ACC carries out: AMP_ASSIGN, LINE_CHECK and AMP_QUERY (R101, R102, R105, R108). -/
namespace Sys2Proof.Machine

/-! ## AMP_ASSIGN (R101, R102) -/

/-- The (zone, role) or "unassigned" that a list entry names, where it names one (R101, R197). -/
def entryTarget (e : AssignEntry) : Option (Option Assign) :=
  match e.target with
  | none => some none
  | some (z, r) =>
    match zoneOfCode z, spkRoleOfCode r with
    | some zone, some role => some (some ⟨zone, role⟩)
    | _, _ => none

/-- A list entry with its channel, where both exist and the channel can carry it (R87, R101). -/
def entryOf (e : AssignEntry) : Option (ChanId × Option Assign) :=
  match chanOfCode e.channel, entryTarget e with
  | some c, some a => if withinCapability c a then some (c, a) else none
  | _, _ => none

/-- The resulting assignment: the entries of the listed channels replaced (R101). -/
def resulting (a : Tab 11 (Option Assign)) (l : List (ChanId × Option Assign)) : Tab 11 (Option Assign) :=
  l.foldl (fun t e => t.set e.1.idx e.2) a

/-- The resulting assignment of a list that passes every check of R101. -/
def validResult (s : State) (list : List AssignEntry) : Option (Tab 11 (Option Assign)) :=
  match allSome entryOf list with
  | none => none
  | some l =>
    let r := resulting (assignment s) l
    if 1 ≤ l.length ∧ l.length ≤ 11 ∧ distinct (list.map (fun e => e.channel)) = true ∧ noneTwice r = true ∧
        pairsWhole r = true then
      some r
    else none

/-- Whether a channel's entry differs between the present assignment and another. -/
def changes (s : State) (r : Tab 11 (Option Assign)) (c : ChanId) : Bool := r.get c.idx != (s.chan c).assign

/-- A channel has no floor report: what LVU reported before a drain does not end it (R78, R103). -/
def forgetReport (c : ChanId) (s : State) : State :=
  { s with acc := { s.acc with floorReport := s.acc.floorReport.set c.idx false } }

/-- A changing channel as the request is taken: DRAINING if it was ACTIVE or ENABLING (R102). -/
def markChanging (c : ChanId) (s : State) : State :=
  let t := s.updChan c (fun r => { r with changing := true })
  if (s.chan c).state = .active ∨ (s.chan c).state = .enabling then forgetReport c (setChanState c .draining none t) else t

/-- Whether a changing channel is in DRAINING. -/
def someDraining (s : State) : Bool := ChanId.all.any (drains s)

/-- A valid AMP_ASSIGN with changing channels is taken (R102). -/
def takeReassign (r : Tab 11 (Option Assign)) (k : Ticket) (s : State) : State :=
  let t := s.eachChan (fun c u => if changes s r c then markChanging c u else u)
  let u := t.eachPkg settlePkg
  let v : State := { u with acc := { u.acc with reassign := some ⟨r, k⟩ } }
  if someDraining v then v else swap v

/-- Whether a line check is in flight on a channel that a resulting assignment changes (R101). -/
def checkInTheWay (s : State) (r : Tab 11 (Option Assign)) : Bool :=
  match s.acc.check with
  | none => false
  | some k => changes s r k.channel

/-- AMP_ASSIGN (R101, R102). -/
def ampAssign (list : List AssignEntry) (k : Ticket) (s : State) : State × Reply :=
  match validResult s list with
  | none => (s, .plain .badArgument)
  | some r =>
    if s.acc.reassign.isSome || checkInTheWay s r then (s, .plain .busy)
    else if ChanId.all.any (changes s r) then (takeReassign r k s, .later)
    else (s, .done .ok 0 (assignBytes r))

/-! ## LINE_CHECK (R105) -/

/-- Whether a channel's zone is PLAYING or SWITCHING. -/
def zoneSounding (s : State) (c : ChanId) : Bool :=
  match (s.chan c).assign with
  | none => false
  | some a => (s.zone a.zone).state == .playing || (s.zone a.zone).state == .switching

/-- Whether R105 lets a channel be checked now. -/
def checkable (s : State) (c : ChanId) : Bool :=
  (s.chan c).state == .idle && !zoneSounding s c && !((s.chan c).changing && s.acc.reassign.isSome) &&
    (s.pkg c.pkg).power != .latched && !pkgHeld s c.pkg

/-- A LINE_CHECK that passes its checks is taken (R105, R106). -/
def takeCheck (c : ChanId) (k : Ticket) (s : State) : State :=
  let t := setChanState c .testing none s
  let u : State := { t with acc := { t.acc with check := some ⟨c, none, k⟩ } }
  if (u.pkg c.pkg).power = .on then startTestStep c.pkg u else settlePkg c.pkg u

/-- LINE_CHECK (R105). -/
def lineCheck (code : Nat) (k : Ticket) (s : State) : State × Reply :=
  match chanOfCode code with
  | none => (s, .plain .badArgument)
  | some c =>
    if s.acc.check.isSome then (s, .plain .busy)
    else if checkable s c then (takeCheck c k s, .later)
    else (s, .plain .notAvailable)

/-! ## AMP_QUERY (R108) -/

def pkgNum (p : PkgId) : Nat := p.idx

/-- The result of an AMP_QUERY, coded by R196: the channel record, the package record, the reassignment and the line check in flight.
DEDUCED (log entry 17): the last two are optional fields, each behind a presence byte. -/
def ampResult (s : State) (c : ChanId) : List Byte :=
  let r := s.chan c
  let p := s.pkg c.pkg
  u8 c.idx ++ u8 (pkgNum c.pkg) ++ optBytes (fun a => u8 (ZoneId.idx (Assign.zone a)).val ++ u8 (SpkRole.code a.role)) r.assign ++
    u8 r.state.code ++ optBytes (fun k => u8 (FaultCause.code k)) r.cause ++ u8 r.retries ++ optBytes u16 r.retryWait ++
    u16 r.freeRun ++ s8 r.trim ++ flagByte r.changing ++
    optBytes (fun k => u16 (Prod.fst k) ++ u8 (Verdict.code k.2)) r.lastCheck ++
    u8 (pkgNum c.pkg) ++ u8 p.power.code ++ u8 p.misses ++ optBytes u16 p.timer ++
    u8 (setBits [p.holds.thermal, p.holds.rail]) ++
    (match s.acc.reassign with
      | none => [0]
      | some k => 1 :: optBytes (fun a => u8 (ZoneId.idx (Assign.zone a)).val ++ u8 (SpkRole.code a.role)) (k.result.get c.idx)) ++
    optBytes (fun k => u8 (ChanId.idx (LineCheck.channel k)).val) s.acc.check

/-- AMP_QUERY (R108). -/
def ampQuery (code page : Nat) (s : State) : State × Reply :=
  match chanOfCode code with
  | none => (s, .plain .badArgument)
  | some c => (s, answerPage (ampResult s c) page)

end Sys2Proof.Machine
end

