-- ==== Sys2Proof/Machine/Mapper.lean ====
section
/-! DEFINITION. The Channel Mapper: coefficient terms, fold-down, listening modes, bass management, upmix and downmix, and its two requests (R57, R58, R61 to R65, R81, R82).

Division of `Int` by a positive literal is the floor of the spec.
-/
namespace Sys2Proof

def RoleSamples.zero : RoleSamples := ⟨0, 0, 0, 0, 0, 0, 0, 0, 0, 0⟩

/-- Samples made role by role. -/
def RoleSamples.of (f : Role → Int) : RoleSamples :=
  ⟨f .fl, f .fr, f .c, f .lfe, f .sl, f .sr, f .sbl, f .sbr, f .hl, f .hr⟩

end Sys2Proof

namespace Sys2Proof.Machine

/-! ## Coefficient terms (R82) -/

/-- A sample scaled by a coefficient word (R82). -/
def term (x w : Int) : Int := (x * w + 524288) / 1048576

/-- The word of a downmix coefficient (R65). -/
def Coef.word : Coef → Int
  | .db0 => 1048576
  | .db3 => 742335
  | .db45 => 624597
  | .db6 => 525533
  | .off => 0

/-! ## Roles with their samples -/

/-- The samples of the roles a set holds, 0 elsewhere: a role that an input does not carry contributes nothing. -/
def only (roles : RoleSet) (x : RoleSamples) : RoleSamples :=
  .of (fun r => if roles.has r then x.get r else 0)

/-- The five roles an engine in UPMIX derives from FL and FR (R58). -/
def upmix (fl fr : Int) : RoleSamples where
  fl := fl
  fr := fr
  c := term (fl + fr) 525533
  lfe := 0
  sl := term (fl - fr) 525533
  sr := -(term (fl - fr) 525533)
  sbl := 0
  sbr := 0
  hl := 0
  hr := 0

/-- The signals of MAIN's nine amplified roles and of SW. -/
structure MainSignals where
  fl : Int
  fr : Int
  c : Int
  sl : Int
  sr : Int
  sbl : Int
  sbr : Int
  hl : Int
  hr : Int
  sw : Int
  deriving DecidableEq, Repr

/-- The part of an input role that is added elsewhere because its own role is not in the layout (R61). -/
def folded (inLayout : Bool) (x : Int) : Int := if inLayout then 0 else term x 742335

/-- An input role's signal at its own layout role. -/
def kept (inLayout : Bool) (x : Int) : Int := if inLayout then x else 0

/-- Fold-down of the input roles onto the main layout (R61). -/
def foldDown (l : Layout) (x : RoleSamples) : MainSignals where
  fl := x.fl + folded l.hl x.hl + folded l.sw x.lfe
  fr := x.fr + folded l.hr x.hr + folded l.sw x.lfe
  c := x.c
  sl := x.sl + folded l.sbl x.sbl
  sr := x.sr + folded l.sbr x.sbr
  sbl := kept l.sbl x.sbl
  sbr := kept l.sbr x.sbr
  hl := kept l.hl x.hl
  hr := kept l.hr x.hr
  sw := kept l.sw x.lfe

/-- Lo of R64, before the pad; also STEREO's FL (R57). -/
def mixLeft (m : Mapper) (x : RoleSamples) : Int :=
  x.fl + term x.c m.cCoef.word + term x.sl m.sCoef.word + term x.sbl m.bCoef.word + term x.hl m.hCoef.word

/-- Ro of R64, before the pad; also STEREO's FR (R57). -/
def mixRight (m : Mapper) (x : RoleSamples) : Int :=
  x.fr + term x.c m.cCoef.word + term x.sr m.sCoef.word + term x.sbr m.bCoef.word + term x.hr m.hCoef.word

/-- The pad: a second scaling by the −6 dB word (R64, R82). -/
def padded (m : Mapper) (x : Int) : Int := if m.pad then term x 525533 else x

/-- The downmix of Z2 and Z3 (R64). -/
def downmix (m : Mapper) (x : RoleSamples) : Int × Int := (padded m (mixLeft m x), padded m (mixRight m x))

/-- MAIN in STEREO, before bass management (R57). -/
def stereoSignals (m : Mapper) (x : RoleSamples) : MainSignals where
  fl := mixLeft m x + folded m.layout.sw x.lfe
  fr := mixRight m x + folded m.layout.sw x.lfe
  c := 0
  sl := 0
  sr := 0
  sbl := 0
  sbr := 0
  hl := 0
  hr := 0
  sw := kept m.layout.sw x.lfe

/-! ## Bass management (R62) -/

/-- The scale of the fixed-point sine and cosine below. -/
def fixOne : Int := 2 ^ 128

/-- π and the square root of 2 at that scale. -/
def fixPi : Int := 1069028584064966747859680373161870783300
def fixSqrt2 : Int := 481231938336009023090067544955250113854

/-- Sine and cosine by their series: `k` terms from the `n`-th on, the term at hand given. -/
def sinCos (x : Int) : Nat → Nat → Int → Int × Int → Int × Int
  | 0, _, _, acc => acc
  | k + 1, n, t, (s, c) =>
    let acc := match n % 4 with
      | 0 => (s, c + t)
      | 1 => (s + t, c)
      | 2 => (s, c - t)
      | _ => (s - t, c)
    sinCos x k (n + 1) (t * x / (fixOne * (n + 1))) acc

/-- round(2^28 × num / den), halves away from zero. -/
def round28 (num den : Int) : Int :=
  if 0 ≤ num then (num * 536870912 + den) / (2 * den) else -((-num * 536870912 + den) / (2 * den))

/-- The held values of one section (R62). -/
structure Coeffs where
  b0 : Int
  b1 : Int
  b2 : Int
  a1 : Int
  a2 : Int
  deriving DecidableEq, Repr

/-- The low-pass and the high-pass section at a crossover frequency and a sample rate, in Hz (R62).
With s and c the sine and cosine of π f / f_s, the values of R62 are quotients by c² + √2 s c + s². -/
def crossover (f fs : Nat) : Coeffs × Coeffs :=
  let (s, c) := sinCos (fixPi * f / fs) 24 0 fixOne (0, 0)
  let ss := s * s
  let cc := c * c
  let m := fixSqrt2 * (s * c) / fixOne
  let d := cc + m + ss
  let a1 := round28 (2 * (ss - cc)) d
  let a2 := round28 (cc - m + ss) d
  (⟨round28 ss d, round28 (2 * ss) d, round28 ss d, a1, a2⟩, ⟨round28 cc d, round28 (-2 * cc) d, round28 cc d, a1, a2⟩)

/-- One section takes one sample (R62). -/
def Section.step (k : Coeffs) (q : Section) (x : Int) : Section × Int :=
  let y := (k.b0 * x + k.b1 * q.x1 + k.b2 * q.x2 - k.a1 * q.y1 - k.a2 * q.y2 + 134217728) / 268435456
  (⟨x, q.x1, y, q.y1⟩, y)

/-- One role's two filters take one sample: the high-passed role and its part for SW (R62). -/
def RoleFilter.step (lo hi : Coeffs) (f : RoleFilter) (x : Int) : RoleFilter × Int × Int :=
  let (h1, y1) := f.high1.step hi x
  let (h2, y2) := f.high2.step hi y1
  let (l1, z1) := f.low1.step lo x
  let (l2, z2) := f.low2.step lo z1
  (⟨h1, h2, l1, l2⟩, y2, z2)

/-- A role's share in bass management: filtered if its group is SMALL and the role is in the layout. -/
def bassRole (small : Bool) (lo hi : Coeffs) (f : RoleFilter) (x : Int) : RoleFilter × Int × Int :=
  if small then f.step lo hi x else (f, x, 0)

/-- Which of the nine roles are filtered in MULTI and UPMIX: those of SMALL groups, the subwoofer enabled (R62). -/
def smallRoles (m : Mapper) : List Bool :=
  let g := fun (x : GroupSize) (inLayout : Bool) => m.sub && x == .small && inLayout
  [g m.front m.layout.fl, g m.front m.layout.fr, g m.centre m.layout.c, g m.surround m.layout.sl, g m.surround m.layout.sr,
    g m.back m.layout.sbl, g m.back m.layout.sbr, g m.height m.layout.hl, g m.height m.layout.hr]

/-- Which roles are filtered in a listening mode: in STEREO the front pair alone, in DIRECT none (R57, R62). -/
def filteredRoles (m : Mapper) : ListenMode → List Bool
  | .direct => [false, false, false, false, false, false, false, false, false]
  | .stereo => (smallRoles m).take 2 ++ [false, false, false, false, false, false, false]
  | .multi | .upmix => smallRoles m

/-- Bass management of MAIN's signals (R62). -/
def bass (lo hi : Coeffs) (small : List Bool) (f : Tab 9 RoleFilter) (x : MainSignals) : Tab 9 RoleFilter × MainSignals :=
  let go := fun (i : Fin 9) (v : Int) => bassRole (small.getD i false) lo hi (f.get i) v
  let r0 := go 0 x.fl
  let r1 := go 1 x.fr
  let r2 := go 2 x.c
  let r3 := go 3 x.sl
  let r4 := go 4 x.sr
  let r5 := go 5 x.sbl
  let r6 := go 6 x.sbr
  let r7 := go 7 x.hl
  let r8 := go 8 x.hr
  (⟨[r0.1, r1.1, r2.1, r3.1, r4.1, r5.1, r6.1, r7.1, r8.1], rfl⟩,
    { fl := r0.2.1, fr := r1.2.1, c := r2.2.1, sl := r3.2.1, sr := r4.2.1, sbl := r5.2.1, sbr := r6.2.1, hl := r7.2.1,
      hr := r8.2.1,
      sw := x.sw + r0.2.2 + r1.2.2 + r2.2.2 + r3.2.2 + r4.2.2 + r5.2.2 + r6.2.2 + r7.2.2 + r8.2.2 })

/-- MAIN's signals before bass management, by listening mode (R57). -/
def mainMix (m : Mapper) (mode : ListenMode) (x : RoleSamples) : MainSignals :=
  match mode with
  | .direct | .multi | .upmix => foldDown m.layout x
  | .stereo => stereoSignals m x

/-- MAIN's role signals and the section states after one sample period at a sample rate (R57, R62). -/
def mainSignals (m : Mapper) (mode : ListenMode) (rate : Nat) (x : RoleSamples) : Tab 9 RoleFilter × MainSignals :=
  let small := filteredRoles m mode
  let mix := mainMix m mode x
  if small.any id then
    let (lo, hi) := crossover m.crossover rate
    bass lo hi small m.filters mix
  else (m.filters, mix)

/-- The signal of the role an amplified channel of MAIN carries. -/
def MainSignals.get (x : MainSignals) : SpkRole → Int
  | .fl => x.fl | .fr => x.fr | .c => x.c | .sl => x.sl | .sr => x.sr | .sbl => x.sbl | .sbr => x.sbr
  | .hl => x.hl | .hr => x.hr | .l => 0 | .r => 0

/-- Every section state stands at 0 while MAIN is not PLAYING (R62). -/
def clearFilters (s : State) : State := { s with cmap := { s.cmap with filters := .replicate 9 .zero } }

/-! ## BASS_CONFIG and DOWNMIX_CONFIG -/

/-- The settings a BASS_CONFIG carries, where they are valid (R63). -/
def bassSettings (a : BassArgs) : Option (GroupSize × GroupSize × GroupSize × GroupSize × GroupSize) :=
  match groupOfCode a.front, groupOfCode a.centre, groupOfCode a.surround, groupOfCode a.back, groupOfCode a.height with
  | some f, some c, some su, some b, some h =>
    if 40 ≤ a.crossover ∧ a.crossover ≤ 200 ∧ a.crossover % 10 = 0 then some (f, c, su, b, h) else none
  | _, _, _, _, _ => none

/-- BASS_CONFIG (R63). -/
def bassConfig (a : BassArgs) (s : State) : State × Reply :=
  match bassSettings a with
  | none => (s, .plain .badArgument)
  | some (f, c, su, b, h) =>
    let t : State := { s with cmap := { s.cmap with
      front := f, centre := c, surround := su, back := b, height := h, crossover := a.crossover, sub := a.sub } }
    (if a.sub = s.cmap.sub then t else recomputeLayout t, .plain .ok)

/-- DOWNMIX_CONFIG (R65). -/
def downmixConfig (a : DownmixArgs) (s : State) : State × Reply :=
  match coefOfCode a.c, coefOfCode a.s, coefOfCode a.b, coefOfCode a.h with
  | some c, some su, some b, some h =>
    ({ s with cmap := { s.cmap with cCoef := c, sCoef := su, bCoef := b, hCoef := h, pad := a.pad } }, .plain .ok)
  | _, _, _, _ => (s, .plain .badArgument)

end Sys2Proof.Machine
end

