-- ==== Sys2Proof/Machine/Source.lean ====
section
/-! DEFINITION. The source table by itself: lock sequencers, classification and frame judgement, as far as SIU's own records go (R28 to R40).

What SIU reports to ZC and to the engines stands in `Report.lean`.
-/
namespace Sys2Proof.Machine

/-! ## Lock states -/

/-- The record of a source whose audio is gone: format NONE, no rate, no frame run, classification stopped (R32, R36). -/
def SourceRec.silent (r : SourceRec) : SourceRec :=
  { r with
    format := .none, channels := none, rate := none, ifRate := none, run := ⟨0, none⟩, syncTimer := none,
    laneTimer := none, silenced := false }

/-- The length of an attempt window, in ms (section 2.3). -/
def attemptWindow : Nat := 10

/-- The length of the sync timer and of the lane timer, in ms (R37, R38). -/
def classifyTime : Nat := 64

/-- A sequencer enters SEEKING with n = 0 and opens its attempt window (R32, R35, R36). -/
def SourceRec.seek (r : SourceRec) : SourceRec :=
  { r with lock := .seeking, attempts := 0, seqTimer := some attemptWindow, quiet := 0, armed := false }

/-- A sequencer is halted (R32). -/
def SourceRec.halt (r : SourceRec) : SourceRec :=
  { r.silent with lock := .absent, attempts := 0, seqTimer := none, quiet := 0, armed := false }

/-- ZC orders the start of the six sequencers (R32). -/
def startSequencers (s : State) : State :=
  Clocked.all.foldl (fun t c => t.updSrc c.src (fun r => if r.lock = .absent then r.seek else r)) s

/-- ZC orders the halt of the six sequencers (R32). -/
def haltSequencers (s : State) : State := Clocked.all.foldl (fun t c => t.updSrc c.src SourceRec.halt) s

/-- A source of two-channel PCM at 48 kHz becomes LOCKED: an analog source with a pair, or TUNER (R30, R31). -/
def SourceRec.lockPcm (r : SourceRec) : SourceRec := { r with lock := .locked, format := .pcm2, rate := some .r48 }

/-- Such a source becomes ABSENT (R30, R31). -/
def SourceRec.unlockPcm (r : SourceRec) : SourceRec := { r with lock := .absent, format := .none, rate := none }

/-- SIU follows the tuner into IDLE (R31). -/
def tunerLocked (s : State) : State := s.updSrc .tuner SourceRec.lockPcm

/-- SIU follows the tuner out of IDLE (R31). -/
def tunerAbsent (s : State) : State := s.updSrc .tuner SourceRec.unlockPcm

/-- Lock achieved in SEEKING at one of the seven rates (R33, R37). -/
def SourceRec.achieve (r : SourceRec) (f : Rate) : SourceRec :=
  { r.silent with
    lock := .locked, attempts := 0, rate := some f, ifRate := some f, seqTimer := none,
    syncTimer := some classifyTime }

/-- The backoff wait after the n-th failure, in ms (R34). -/
def backoffMs (n : Nat) : Nat := 10 * 2 ^ min n 6

/-- A failed attempt (R34). -/
def SourceRec.fail (r : SourceRec) : SourceRec :=
  let n := r.attempts + 1
  if n < 16 then { r with lock := .backoff, attempts := n, seqTimer := some (backoffMs n) }
  else { r with lock := .lost, attempts := 16, seqTimer := none, quiet := 0, armed := false }

/-- The backoff wait expires: a new attempt window opens, the count kept (R34). -/
def SourceRec.retry (r : SourceRec) : SourceRec := { r with lock := .seeking, seqTimer := some attemptWindow }

/-! ## Classification (R37, R38) -/

/-- Whether a format is one of the two coded kinds. -/
def Format.isCoded : Format → Bool
  | .codedA | .codedB => true
  | .none | .pcm2 | .pcmm => false

/-- Whether a format is PCM2 or PCMM. -/
def Format.isPcm : Format → Bool
  | .pcm2 | .pcmm => true
  | .none | .codedA | .codedB => false

/-- The channel count of the highest active lane (R38). -/
def laneCount (s : State) : Nat :=
  if s.siu.lanes.get 3 then 8 else if s.siu.lanes.get 2 then 6 else if s.siu.lanes.get 1 then 4 else 2

/-- The PCM format a source falls to when no sync word is seen, with its channel count (R37). -/
def pcmFormat (s : State) (c : Clocked) : Format × Option Nat :=
  match c with
  | .mci => (.pcmm, some (laneCount s))
  | .din0 | .din1 | .din2 | .din3 | .net => (.pcm2, none)

/-- The record of a source that has come to carry PCM, at its interface rate (R28, R37). -/
def SourceRec.setPcm (r : SourceRec) (f : Format × Option Nat) : SourceRec :=
  { r with format := f.1, channels := f.2, rate := r.ifRate, laneTimer := none, silenced := false }

/-- The lane timer runs exactly while the format is PCMM and the count of the lanes differs from the channel count (R38). -/
def judgeLanes (s : State) : State :=
  s.updSrc .mci (fun r =>
    if r.format = .pcmm ∧ r.channels ≠ some (laneCount s) then
      { r with laneTimer := match r.laneTimer with | some t => some t | none => some classifyTime }
    else { r with laneTimer := none })

/-! ## Frames (R39, R40) -/

/-- The shortest and longest declared length of a kind, in bytes (R39). -/
def frameRange : CodedKind → Nat × Nat
  | .a => (256, 3840)
  | .b => (512, 8192)

/-- The samples of one frame of a kind (R39). -/
def frameSamples : CodedKind → Nat
  | .a => 1536
  | .b => 512

/-- The judgement of a frame (R39). -/
inductive Judgement where
  | valid (k : CodedKind) (r : Rate)
  | short
  | malformed
  deriving DecidableEq, Repr

/-- SIU judges a frame (R39). -/
def judgeFrame (f : FrameIn) : Judgement :=
  match f.kind with
  | none => .malformed
  | some k =>
    if f.received < f.declared ∧ f.received < (frameRange k).1 then .short
    else if (frameRange k).1 ≤ f.declared ∧ f.declared ≤ (frameRange k).2 ∧ f.declared ≤ f.received then
      match f.rate with
      | some r => .valid k r
      | none => .malformed
    else .malformed

/-- The frame run after a judged frame (R39, R40). -/
def runNext (q : FrameRun) : Judgement → FrameRun
  | .valid k r => if q.stream = some (k, r) ∧ 0 < q.count then ⟨min 3 (q.count + 1), some (k, r)⟩ else ⟨1, some (k, r)⟩
  | .short | .malformed => ⟨0, none⟩

end Sys2Proof.Machine

namespace Sys2Proof

/-- The format of a coded kind. -/
def CodedKind.format : CodedKind → Machine.Format
  | .a => .codedA
  | .b => .codedB

end Sys2Proof

namespace Sys2Proof.Machine

/-- The coded stream a run establishes: a run of three whose kind and rate differ from the established ones (R40). -/
def establishes (r : SourceRec) : Option (CodedKind × Rate) :=
  if r.run.count = 3 then
    match r.run.stream with
    | some (k, f) => if r.format = k.format ∧ r.rate = some f then none else some (k, f)
    | none => none
  else none

/-- A sync word and its judged frame enter the source record: sync timer, short-frame count, frame run, and silence in place of PCM while the run is built (R37, R39 to R41). -/
def SourceRec.takeFrame (r : SourceRec) (j : Judgement) : SourceRec :=
  { r with
    syncTimer := some classifyTime
    shortFrames := if j = .short then min 65535 (r.shortFrames + 1) else r.shortFrames
    run := runNext r.run j
    silenced := r.silenced || r.format.isPcm }

/-- The record of a source that has come to carry a coded stream (R40, R41). -/
def SourceRec.setCoded (r : SourceRec) (k : CodedKind) (f : Rate) : SourceRec :=
  { r with format := k.format, channels := none, rate := some f, laneTimer := none, silenced := false }

/-- The record of a source whose stream its engine has declared broken (R43). -/
def SourceRec.setBroken (r : SourceRec) : SourceRec :=
  { r with
    format := .none, channels := none, rate := r.ifRate, run := ⟨0, none⟩, syncTimer := some classifyTime,
    laneTimer := none, silenced := false }

/-! ## SOURCE_QUERY (R45) -/

/-- The result of a SOURCE_QUERY, coded by R196.
DEDUCED (log entry 17): the channel count is returned as its number, 2 to 8, and not as a code from 0. -/
def sourceResult (s : State) (x : Src) : List Byte :=
  let r := s.src x
  u8 x.id ++ u8 x.kind.code ++ u8 r.lock.code ++ u8 r.attempts ++ u8 r.format.code ++ optBytes u8 r.channels ++
    optBytes (fun f => u8 (Rate.code f)) r.rate ++ optBytes (fun f => u8 (Rate.code f)) r.ifRate ++ u16 r.shortFrames ++
    u8 r.run.count ++ optBytes (fun k => u8 (CodedKind.code k.1) ++ u8 (Rate.code k.2)) r.run.stream ++ s8 r.trim ++
    u8 r.listeners.bits ++ optBytes (fun e => u8 (EngineId.idx e).val) r.engine ++
    optBytes (fun p => u8 (match p with | PairId.cv0 => 0 | PairId.cv1 => 1)) r.pair ++ optBytes u16 r.seqTimer

/-- SOURCE_QUERY (R45). -/
def sourceQuery (id page : Nat) (s : State) : State × Reply :=
  match srcOfId id with
  | none => (s, .plain .badArgument)
  | some x => (s, answerPage (sourceResult s x) page)

end Sys2Proof.Machine
end

