-- ==== Sys2Proof/Machine/Zone.lean ====
section
/-! DEFINITION. Zone acquisition: the conditions, the converter-pair arbiter, the binding and the release of engines, the entry into each zone state (R3 to R6, R10, R13, R24, R25, R49 to R52). -/
namespace Sys2Proof.Machine

/-! ## What a zone needs (R4, section 3.1) -/

/-- Whether a zone needs an engine on its source under a listening mode of MAIN (section 3.1). -/
def needsEngineIn (s : State) (mode : ListenMode) (z : ZoneId) : Bool :=
  let f := (s.src (s.zone z).source).format
  f.isCoded || (z == .main && mode == .upmix && f == .pcm2)

/-- Whether a zone needs an engine on its source now. -/
def needsEngine (s : State) (z : ZoneId) : Bool := needsEngineIn s s.zc.mode z

/-- Whether a zone is a consumer of a RUNNING engine bound to its source (R4, condition 5). -/
def engineServes (s : State) (z : ZoneId) : Bool :=
  match (s.zone z).engine with
  | none => false
  | some e => (s.eng e).bound == some (s.zone z).source && (s.eng e).state == .running

/-- Conditions 1 to 4 (R4). -/
def firstUnmetInput (s : State) (z : ZoneId) : Option WaitReason :=
  let r := s.zone z
  let x := s.src r.source
  match r.source.kind with
  | .digital | .multi | .network =>
    if x.lock = .lost then some .lost
    else if x.lock ≠ .locked then some .lock
    else if x.format = .none then some .format
    else none
  | .tuner => if s.tun.state = .idle then none else some .tuner
  | .analog => if r.pair.isSome then none else some .converter

/-- The first unmet condition of a zone (R4). -/
def firstUnmet (s : State) (z : ZoneId) : Option WaitReason :=
  match firstUnmetInput s z with
  | some w => some w
  | none => if needsEngine s z && !engineServes s z then some .decoder else none

/-! ## The state field -/

/-- A zone takes a state: LVU's latest floor report no longer concerns it, nor the channels that its leaving PLAYING sets fading, and MAIN's sections stand at 0 while it is not PLAYING (R62, R78, R91). -/
def setZoneState (z : ZoneId) (st : ZoneState) (s : State) : State :=
  let t := forgetEarlier s (s.updZone z (fun r => { r with state := st }))
  let u : State := { t with zc := { t.zc with floorReport := t.zc.floorReport.put z false } }
  if z = .main ∧ st ≠ .playing then clearFilters u else u

/-- A zone enters PLAYING from ACQUIRING (R5).
DEDUCED (log entry 21): its STATE notice is queued before the REQUEST_DONE of a line check that its entry ends. -/
def enterPlaying (z : ZoneId) (s : State) : State :=
  ampPlaying z
    ((setZoneState z .playing (s.updZone z (fun r => { r with wait := none }))).postZone z (.zoneState z .playing none) .part)

/-- One judgement of R4 for a zone in ACQUIRING: PLAYING if nothing is unmet, else the reason replaced if it differs (R5).
A WAIT notice carries the origin of the request or switch that has ZC judge the zone, PART for a report (R26). -/
def judgeZone (o : Origin) (z : ZoneId) (s : State) : State :=
  if (s.zone z).state = .acquiring then
    match firstUnmet s z with
    | none => enterPlaying z s
    | some w =>
      if (s.zone z).wait = some w then s
      else (s.updZone z (fun r => { r with wait := some w })).postZone z (.zoneWait z (some w)) o
  else s

/-! ## The converter-pair arbiter (R24, R25) -/

/-- The source that holds a pair. -/
def pairHolder (s : State) (p : PairId) : Option Src := Src.all.find? (fun x => (s.src x).pair == some p)

/-- The free pair the arbiter gives, CV0 when both are free (R24). -/
def freePair (s : State) : Option PairId :=
  if pairHolder s .cv0 = none then some .cv0 else if pairHolder s .cv1 = none then some .cv1 else none

/-- A source is given a pair and SIU makes it LOCKED (R24, R30). -/
def givePair (x : Src) (p : PairId) (s : State) : State := s.updSrc x (fun r => { r.lockPcm with pair := some p })

/-- A zone leaves the converter wait list. -/
def leaveConvWait (z : ZoneId) (s : State) : State :=
  { s with zc := { s.zc with convWait := s.zc.convWait.filter (fun y => y != z) } }

/-- The arbiter serves a zone that lacks a pair (R24). -/
def serveConverter (z : ZoneId) (s : State) : State :=
  let x := (s.zone z).source
  match (s.src x).pair with
  | some p => s.updZone z (fun r => { r with pair := some p })
  | none =>
    match freePair s with
    | some p => (givePair x p s).updZone z (fun r => { r with pair := some p })
    | none => { s with zc := { s.zc with convWait := s.zc.convWait ++ [z] } }

/-- A freed pair is given to the source wanted at the head of the converter wait list (R25). -/
def grantPair (p : PairId) (s : State) : State :=
  match s.zc.convWait with
  | [] => s
  | h :: _ =>
    let x := (s.zone h).source
    let served := s.zc.convWait.filter (fun z => (s.zone z).source == x)
    let t := served.foldl (fun t z => t.updZone z (fun r => { r with pair := some p })) (givePair x p s)
    { t with zc := { t.zc with convWait := t.zc.convWait.filter (fun z => !served.contains z) } }

/-- A zone leaves its source's listener set; an emptied set frees the source's pair (R10, R25). -/
def leaveListeners (z : ZoneId) (x : Src) (s : State) : State :=
  let t := s.updSrc x (fun r => { r with listeners := r.listeners.put z false })
  let r := t.src x
  match r.pair with
  | none => t
  | some p =>
    if r.listeners.isEmpty then grantPair p (t.updSrc x (fun q => { q.unlockPcm with pair := none })) else t

/-- A zone joins a source's listener set (R3). -/
def joinListeners (z : ZoneId) (x : Src) (s : State) : State :=
  s.updSrc x (fun r => { r with listeners := r.listeners.put z true })

/-! ## Engines (R49 to R52) -/

/-- The format an engine is loaded for, where a source's format calls for an engine (R48). -/
def Format.forEngine : Format → Option EngineFormat
  | .codedA => some .codedA
  | .codedB => some .codedB
  | .pcm2 => some .pcm2
  | .none | .pcmm => Option.none

/-- The mode an engine takes from its loaded format (R48). -/
def EngineFormat.mode : EngineFormat → EngineMode
  | .codedA | .codedB => .decode
  | .pcm2 => .upmix

/-- The time of a load, in ms (R49). -/
def loadMs : Nat := 5

/-- An engine starts a load for a format and rate (R49, R53). -/
def EngineRec.load (r : EngineRec) (f : EngineFormat) (rate : Rate) : EngineRec :=
  { r with
    state := .loading
    mode := f.mode
    loaded := some (f, rate)
    roles := .empty
    errorRun := 0
    lastGood := none
    loadTime := some loadMs
    delivery := [] }

/-- An engine without a source: FREE, its frame-error count kept (R48, R51). -/
def EngineRec.freed (r : EngineRec) : EngineRec :=
  { r with
    state := .free
    bound := none
    mode := .decode
    loaded := none
    consumers := .empty
    roles := .empty
    loadTime := none
    delivery := [] }

/-- A zone joins an engine's consumer set and leaves the engine wait list (R49). -/
def joinEngine (z : ZoneId) (e : EngineId) (s : State) : State :=
  let t := s.updEng e (fun r => { r with consumers := r.consumers.put z true })
  ({ t with de := { t.de with wait := t.de.wait.filter (fun y => y != z) } } : State).updZone z
    (fun r => { r with engine := some e })

/-- A free engine is bound to a source with a zone as its first consumer (R49, case 2). -/
def bindEngine (z : ZoneId) (e : EngineId) (x : Src) (s : State) : State :=
  match (s.src x).format.forEngine, (s.src x).rate with
  | some f, some rate =>
    let t := s.updEng e (fun r => { (r.load f rate) with bound := some x, frameErrors := 0, consumers := .empty })
    joinEngine z e (t.updSrc x (fun r => { r with engine := some e }))
  | _, _ => s

/-- The first FREE engine. -/
def freeEngine (s : State) : Option EngineId := EngineId.all.find? (fun e => (s.eng e).state == .free)

/-- The engine wait list with a zone placed on it: MAIN at the head, the others at the tail, none twice (R52). -/
def waitWith (l : List ZoneId) (z : ZoneId) : List ZoneId :=
  if l.contains z then l else if z = .main then z :: l else l ++ [z]

/-- The Decode Engines take a zone as a consumer (R49). -/
def askEngine (o : Origin) (z : ZoneId) (s : State) : State :=
  let x := (s.zone z).source
  match (s.src x).engine with
  | some e => judgeZone o z (joinEngine z e s)
  | none =>
    match freeEngine s with
    | some e => bindEngine z e x s
    | none => { s with de := { s.de with wait := waitWith s.de.wait z } }

/-- ZC re-evaluates a zone in ACQUIRING for an origin and acts on the first unmet condition (R5, R26). -/
def reevaluateFor (o : Origin) (z : ZoneId) (s : State) : State :=
  let t := judgeZone o z s
  let r := t.zone z
  let u :=
    if r.state = .acquiring ∧ r.wait = some .converter ∧ t.zc.convWait.contains z = false then judgeZone o z (serveConverter z t)
    else t
  let q := u.zone z
  if q.state = .acquiring ∧ q.wait = some .decoder ∧ q.engine = none then askEngine o z u else u

/-- The same on a report, whose changes the part makes itself (R5, R26). -/
def reevaluate (z : ZoneId) (s : State) : State := reevaluateFor .part z s

/-- The zones of a list, each re-evaluated in turn. -/
def reevaluateAll (l : List ZoneId) (s : State) : State := l.foldl (fun t z => reevaluate z t) s

/-- A freed engine is offered to the engine wait list (R52). -/
def offerEngine (e : EngineId) (s : State) : State :=
  match s.de.wait.find? (fun z => needsEngine s z) with
  | none => s
  | some h =>
    let x := (s.zone h).source
    let others := s.de.wait.filter (fun z => z != h && (s.zone z).source == x)
    reevaluateAll (h :: others) (others.foldl (fun t z => joinEngine z e t) (bindEngine h e x s))

/-- A zone leaves its engine's consumer set; an emptied engine goes FREE and is offered (R51, R52). -/
def leaveEngine (z : ZoneId) (s : State) : State :=
  match (s.zone z).engine with
  | none => s
  | some e =>
    let t := (s.updZone z (fun r => { r with engine := none })).updEng e
      (fun r => { r with consumers := r.consumers.put z false })
    if (t.eng e).consumers.isEmpty then
      let u := match (t.eng e).bound with
        | none => t
        | some x => t.updSrc x (fun r => { r with engine := none })
      offerEngine e (u.updEng e EngineRec.freed)
    else t

/-- A zone leaves the engine wait list without a grant (R52). -/
def leaveEngineWait (z : ZoneId) (s : State) : State :=
  { s with de := { s.de with wait := s.de.wait.filter (fun y => y != z) } }

/-- Zones that were granted a pair by the event are evaluated when SIU reports their source LOCKED (R25).
DEDUCED (log entry 26): the report reaches them within the same event, where section 1.10 shows it as a later one.
DESIGN CHOICE (log entry 9): it does so at the end of that event. -/
def sweepGranted (s : State) : State :=
  s.eachZone (fun z t =>
    if (t.zone z).state = .acquiring ∧ (t.zone z).wait = some .converter ∧ (t.zone z).pair.isSome = true then reevaluate z t
    else t)

/-! ## Selection, and the entries into the states -/

/-- The zones of a source's listener set, in the order of the zone table. -/
def listenersOf (s : State) (x : Src) : List ZoneId := ZoneId.all.filter (fun z => (s.src x).listeners.has z)

/-- A sequencer in LOST starts its attempts again, and ZC re-evaluates each listener for an origin (R35). -/
def wakeSource (o : ZoneId → Origin) (x : Src) (s : State) : State :=
  if (s.src x).lock = .lost then
    (listenersOf s x).foldl (fun t z => reevaluateFor (o z) z t) (s.updSrc x SourceRec.seek)
  else s

/-- A zone's selection of a source is reported to SIU (R35).
The selecting zone's change carries the selection's origin, the other listeners' PART. -/
def selectSource (o : Origin) (z : ZoneId) (x : Src) (s : State) : State :=
  wakeSource (fun y => if y = z then o else .part) x s

/-- A zone enters ACQUIRING with a notice of an origin, and R5 evaluates (R3, R10). -/
def enterAcquiring (z : ZoneId) (o : Origin) (s : State) : State :=
  let t := setZoneState z .acquiring s
  let w := firstUnmet t z
  reevaluateFor o z ((t.updZone z (fun r => { r with wait := w })).postZone z (.zoneState z .acquiring w) o)

/-- A zone enters SWITCHING toward a pending source or toward STANDBY (R8, R12). -/
def enterSwitching (z : ZoneId) (pending : Option Src) (o : Origin) (s : State) : State :=
  let t := s.updZone z (fun r => { r with pending := pending, standbyFlag := pending.isNone, switchOrigin := some o })
  (setZoneState z .switching t).postZone z (.zoneState z .switching none) o

/-- Whether some zone is out of STANDBY. -/
def anyOut (s : State) : Bool := ZoneId.all.any (fun z => (s.zone z).state != .standby)

/-- SDD drops a zone from the announcement's taken-zone set (R178). -/
def dropTaken (z : ZoneId) (s : State) : State :=
  { s with sdd := { s.sdd with ann := { s.sdd.ann with taken := s.sdd.ann.taken.put z false } } }

/-- A zone releases its source, its engine and its places on the wait lists (R7, R10, R13). -/
def releaseZone (z : ZoneId) (s : State) : State :=
  let t := leaveConvWait z (leaveEngineWait z s)
  (leaveEngine z (leaveListeners z (t.zone z).source t)).updZone z (fun r => { r with pair := none })

/-- The fields R13 clears. -/
def ZoneRec.idle (r : ZoneRec) : ZoneRec :=
  { r with
    pending := none, standbyFlag := false, switchOrigin := none, wait := none, sleep := none, saved := none, pair := none }

/-- A zone enters STANDBY (R13, R91, R178). -/
def enterStandby (z : ZoneId) (o : Origin) (s : State) : State :=
  let t := dropTaken z ((setZoneState z .standby s).updZone z ZoneRec.idle)
  let u := releaseZone z t
  let v := if anyOut u then u else haltSequencers u
  ampStandby z (v.postZone z (.zoneState z .standby none) o)

/-- The report that a zone's audio is gone (R5, R6, R11). -/
def loseAudio (z : ZoneId) (w : WaitReason) (s : State) : State :=
  match (s.zone z).state with
  | .playing =>
    (snapZone z ((setZoneState z .acquiring s).updZone z (fun r => { r with wait := some w }))).postZone z
      (.zoneState z .acquiring (some w)) .part
  | .switching => snapZone z s
  | .acquiring => reevaluate z s
  | .standby => s

/-- The same report to several zones. -/
def loseAudioAll (l : List ZoneId) (w : WaitReason) (s : State) : State := l.foldl (fun t z => loseAudio z w t) s

/-- A switch is cancelled (R10).
DEDUCED (log entry 47): MAIN leaves its engine whenever its need on PCM2 has ended, also where the MAIN_MODE that ended it is the one that began the switch. -/
def cancelSwitch (z : ZoneId) (o : Origin) (s : State) : State :=
  let t := s.updZone z (fun r => { r with pending := none, standbyFlag := false, switchOrigin := none })
  let u :=
    if z = .main ∧ (t.src (t.zone z).source).format = .pcm2 ∧ t.zc.mode ≠ .upmix then leaveEngine z t else t
  match firstUnmet u z with
  | none => ampPlaying z ((setZoneState z .playing u).postZone z (.zoneState z .playing none) o)
  | some _ => enterAcquiring z o (snapZone z u)

/-- The end of a zone's drain (R10). -/
def endDrainOf (z : ZoneId) (s : State) : State :=
  let r := s.zone z
  let o := match r.switchOrigin with | some o => o | none => .part
  if r.standbyFlag then sweepGranted (enterStandby z o s)
  else
    match r.pending with
    | none => s
    | some x =>
      let t := releaseZone z s
      let u := joinListeners z x (t.updZone z (fun q => { q with source := x, pending := none, switchOrigin := none }))
      let v := if r.source = x then selectSource o z x u else (selectSource o z x u).postZone z (.zoneSource z x) o
      sweepGranted (enterAcquiring z o v)

end Sys2Proof.Machine
end

