-- ==== Sys2Proof/Machine/Report.lean ====
section
/-! DEFINITION. What SIU and the engines report to one another and to ZC: lock gained and lost, formats, broken streams, loads and concealment (R33 to R43, R49 to R56). -/
namespace Sys2Proof.Machine

/-! ## An engine takes a format report (R52, R53) -/

/-- A report of PCM ends the need of zones waiting for an engine on the source (R52). -/
def pruneEngineWait (x : Src) (s : State) : State :=
  if (s.src x).format.isPcm then
    { s with de := { s.de with wait := s.de.wait.filter (fun z => !((s.zone z).source == x && !needsEngine s z)) } }
  else s

/-- The consumers of an engine, in the order of the zone table. -/
def consumersOf (s : State) (e : EngineId) : List ZoneId := ZoneId.all.filter (fun z => (s.eng e).consumers.has z)

/-- A consumer is released by its engine, and ZC re-evaluates it if it is in ACQUIRING (R53). -/
def releaseConsumer (z : ZoneId) (s : State) : State := reevaluate z (leaveEngine z s)

/-- An engine reloads and reports it for every consumer (R6, R53). -/
def reloadEngine (e : EngineId) (f : EngineFormat) (rate : Rate) (s : State) : State :=
  loseAudioAll (consumersOf s e) .decoder (s.updEng e (fun r => r.load f rate))

/-- An engine takes the coded format of its bound source (R53). -/
def takeCoded (e : EngineId) (f : EngineFormat) (rate : Rate) (s : State) : State :=
  if (s.eng e).loaded = some (f, rate) then s else reloadEngine e f rate s

/-- An engine takes PCM2 of its bound source (R53). -/
def takePcm2 (e : EngineId) (rate : Rate) (s : State) : State :=
  if (s.eng e).consumers.main ∧ s.zc.mode = .upmix then
    if (s.eng e).loaded = some (.pcm2, rate) then s
    else
      reloadEngine e .pcm2 rate ((consumersOf s e).foldl (fun t z => if z = .main then t else releaseConsumer z t) s)
  else (consumersOf s e).foldl (fun t z => releaseConsumer z t) s

/-- An engine takes a format report for its bound source (R53). -/
def engineFormat (e : EngineId) (x : Src) (s : State) : State :=
  let r := s.src x
  match r.format, r.rate with
  | .none, _ => s.updEng e (fun q => { q with errorRun := 0, delivery := [] })
  | .codedA, some f => takeCoded e .codedA f s
  | .codedB, some f => takeCoded e .codedB f s
  | .pcm2, some f => takePcm2 e f s
  | .pcmm, _ => (consumersOf s e).foldl (fun t z => releaseConsumer z t) s
  | .codedA, none | .codedB, none | .pcm2, none => s

/-- The Decode Engines take a format report of a source (R52, R53). -/
def enginePart (x : Src) (s : State) : State :=
  let t := pruneEngineWait x s
  match (t.src x).engine with
  | none => t
  | some e => engineFormat e x t

/-! ## The parts of a report (R41, R46) -/

/-- The engine's second report: zones of a list that are in no consumer set then are re-evaluated if in ACQUIRING (R53). -/
def secondReport (l : List ZoneId) (s : State) : State :=
  reevaluateAll (l.filter (fun z => (s.zone z).engine == none)) s

/-- The zones that are consumers of the engine bound to a source. -/
def boundConsumers (s : State) (x : Src) : List ZoneId :=
  match (s.src x).engine with
  | none => []
  | some e => consumersOf s e

/-- The SOURCE notice of kind FORMAT (R46). -/
def postFormat (x : Src) (broken : Bool) (s : State) : State :=
  let r := s.src x
  s.post (.srcFormat x r.format r.channels r.rate broken) .part

/-- The listeners of a source whose engine runs in UPMIX and has the source turn to a coded format: those that are no consumers, and so come to need the engine (R53). -/
def upmixOthers (s : State) (x : Src) : List ZoneId :=
  match (s.src x).engine with
  | none => []
  | some e =>
    if (s.eng e).mode = .upmix ∧ (s.src x).format.isCoded = true then
      (listenersOf s x).filter (fun z => !(s.eng e).consumers.has z)
    else []

/-- SIU hands on a report in its parts, in any order; the engines then report what they release and ZC asks for the zones that have come to need an engine (R41, R46, R49, R53, section 3.3). -/
def handOn (x : Src) (zc notice : State → State) (s : State) : State :=
  secondReport (boundConsumers s x ++ upmixOthers s x) (inAnyOrder zc (enginePart x) notice s)

/-- A format has been established out of NONE (R40). -/
def established (x : Src) (s : State) : State :=
  handOn x (fun t => reevaluateAll (listenersOf t x) t) (postFormat x false) s

/-- An established format has changed (R41). -/
def formatChanged (x : Src) (s : State) : State :=
  handOn x (fun t => loseAudioAll (listenersOf t x) .format t) (postFormat x false) s

/-- A source whose format was `old` has come to carry another one. -/
def formatTaken (x : Src) (old : Format) (s : State) : State :=
  if old = .none then established x s else formatChanged x s

/-! ## Lock (R33, R34, R36) -/

/-- Lock is achieved (R33). -/
def achieveLock (x : Src) (f : Rate) (s : State) : State :=
  reevaluateAll (listenersOf s x) (s.updSrc x (fun r => r.achieve f))

/-- The attempt window expires (R34). -/
def failAttempt (x : Src) (s : State) : State :=
  let t := s.updSrc x SourceRec.fail
  if (t.src x).lock = .lost then
    inEitherOrder (fun u => reevaluateAll (listenersOf u x) u) (fun u => u.post (.srcLost x 16) .part) t
  else t

/-- Lock is lost (R36). -/
def loseLock (x : Src) (s : State) : State :=
  let rate := (s.src x).rate
  handOn x (fun t => loseAudioAll (listenersOf t x) .lock t) (fun t => t.post (.srcLockLost x rate) .part)
    (s.updSrc x (fun r => r.silent.seek))

/-! ## Classification timers (R37, R38) -/

/-- The sync timer of a locked source expires (R37). -/
def syncExpiry (c : Clocked) (s : State) : State :=
  let x := c.src
  let old := (s.src x).format
  if old.isPcm then s.updSrc x (fun r => { r with syncTimer := none, silenced := false })
  else formatTaken x old (s.updSrc x (fun r => { r.setPcm (pcmFormat s c) with syncTimer := none }))

/-- The lane timer expires (R38). -/
def laneExpiry (s : State) : State :=
  formatChanged .mci (s.updSrc .mci (fun r => { r with channels := some (laneCount s), laneTimer := none }))

/-! ## Frames at the engine (R42, R43, R54 to R56) -/

/-- A frame as SIU hands it to an engine: a good frame, or one that counts as a frame error (R42, R54). -/
def goodFrame (r : SourceRec) (j : Judgement) (f : FrameIn) : Option GoodFrame :=
  match j with
  | .valid k rate =>
    if k.format = r.format ∧ r.rate = some rate ∧ f.checkGood = true then some ⟨k, f.content, f.roles⟩ else none
  | .short | .malformed => none

/-- The samples of a frame of the established kind. -/
def establishedSamples (r : SourceRec) : Nat := if r.format = .codedB then 512 else 1536

/-- A running engine takes a good frame (R54). -/
def EngineRec.good (r : EngineRec) (g : GoodFrame) : EngineRec :=
  { r with
    roles := g.roles
    errorRun := 0
    lastGood := some g
    delivery := r.delivery ++ [⟨some (g.kind, g.content), g.roles, 0, frameSamples g.kind⟩] }

/-- What replaces a frame in error: a repeat at the first of a run, silence after that (R55). -/
def replacement (r : EngineRec) (len : Nat) : Segment :=
  match r.lastGood with
  | some g => if r.errorRun = 1 then ⟨some (g.kind, g.content), g.roles, 0, frameSamples g.kind⟩ else ⟨none, r.roles, 0, len⟩
  | none => ⟨none, r.roles, 0, len⟩

/-- A running engine takes a frame error (R55). -/
def EngineRec.error (r : EngineRec) (len : Nat) : EngineRec :=
  let t := { r with frameErrors := min 65535 (r.frameErrors + 1), errorRun := r.errorRun + 1 }
  let g := replacement t len
  { t with delivery := t.delivery ++ [g], roles := g.roles }

/-- A stream is declared broken: SIU resets the format, and reports it (R43, R56). -/
def breakStream (x : Src) (e : EngineId) (s : State) : State :=
  let t := s.updEng e (fun r => { r with errorRun := 0 })
  if (t.src x).format.isCoded then
    handOn x (fun u => loseAudioAll (listenersOf u x) .format u) (postFormat x true) (t.updSrc x SourceRec.setBroken)
  else t

/-- A frame is handed to the bound engine (R42, R50, R54, R55). -/
def handFrame (x : Src) (j : Judgement) (f : FrameIn) (s : State) : State :=
  match (s.src x).engine with
  | none => s
  | some e =>
    let r := s.eng e
    if r.state = .running ∧ r.mode = .decode then
      match goodFrame (s.src x) j f with
      | some g => s.updEng e (fun q => q.good g)
      | none =>
        let t := s.updEng e (fun q => q.error (establishedSamples (s.src x)))
        if (t.eng e).errorRun = 8 then breakStream x e t else t
    else s

/-- A frame on the classification lane of a locked source (R37, R39 to R42).
DEDUCED (log entry 49): the frame that establishes another coded format is not handed to the bound engine as a missing frame. -/
def takeCodedFrame (x : Src) (f : FrameIn) (s : State) : State :=
  let j := judgeFrame f
  let old := s.src x
  let r := old.takeFrame j
  match j, establishes r with
  | .valid _ _, some (k, rate) => formatTaken x old.format (s.setSrc x (r.setCoded k rate))
  | _, _ =>
    let t := s.setSrc x r
    if old.format.isCoded then handFrame x j f t else t

/-! ## The end of a load (R50) -/

/-- The load time of an engine runs out: RUNNING is reported for every consumer (R50). -/
def endLoad (e : EngineId) (s : State) : State :=
  let t := s.updEng e (fun r => { r with
    state := .running
    loadTime := none
    roles := if r.mode = .upmix then .upmix else r.roles })
  reevaluateAll (consumersOf t e) t

/-! ## ENGINE_QUERY (R66) -/

/-- The result of an ENGINE_QUERY, coded by R196; the samples of the last good frame are left out. -/
def engineResult (s : State) (e : EngineId) : List Byte :=
  let r := s.eng e
  u8 e.idx ++ u8 r.state.code ++ optBytes (fun x => u8 (Src.id x)) r.bound ++ u8 r.mode.code ++
    optBytes (fun l => u8 (EngineFormat.code l.1) ++ u8 (Rate.code l.2)) r.loaded ++ u8 r.consumers.bits ++
    u16 r.roles.bits ++ u16 r.frameErrors ++ u8 r.errorRun ++ flagByte r.lastGood.isSome ++ optBytes u8 r.loadTime ++
    u8 s.de.wait.length ++ s.de.wait.flatMap (fun z => u8 z.idx)

/-- ENGINE_QUERY (R66). -/
def engineQuery (code page : Nat) (s : State) : State × Reply :=
  match engineOfCode code with
  | none => (s, .plain .badArgument)
  | some e => (s, answerPage (engineResult s e) page)

end Sys2Proof.Machine
end

