-- ==== Sys2Proof/Machine/ZoneRequests.lean ====
section
/-! DEFINITION. The requests that ZC, SIU and LVU carry out for a zone, a source or an output: R3, R7 to R9, R12, R15 to R23, R44, R59, R60, R74, R84.

Each request is a function of its origin, its arguments and the state; the refusals that LNK makes before it (R186) are not repeated here.
-/
namespace Sys2Proof.Machine

/-! ## Power (R3, R12) -/

/-- ZONE_POWER on (R3). -/
def powerOn (o : Origin) (z : ZoneId) (s : State) : State :=
  let r := s.zone z
  match r.power with
  | .on => s
  | .standby =>
    match r.state with
    | .standby =>
      let first := !anyOut s
      let t := joinListeners z r.source (s.updZone z (fun q => { q with power := .on }))
      let u := selectSource o z r.source t
      enterAcquiring z o (if first then startSequencers u else u)
    | .switching =>
      if r.standbyFlag then sweepGranted (cancelSwitch z o (s.updZone z (fun q => { q with power := .on })))
      else s.updZone z (fun q => { q with power := .on, lastOrigin := o })
    | .acquiring | .playing => s.updZone z (fun q => { q with power := .on, lastOrigin := o })

/-- A zone goes to standby, its power and sleep already dealt with (R12). -/
def goStandby (o : Origin) (z : ZoneId) (s : State) : State :=
  match (s.zone z).state with
  | .standby => s
  | .playing => enterSwitching z none o s
  | .switching =>
    if (s.zone z).standbyFlag then s
    else (s.updZone z (fun q => { q with pending := none, standbyFlag := true })).stamp z o
  | .acquiring => sweepGranted (enterStandby z o s)

/-- ZONE_POWER standby (R12). -/
def powerStandby (o : Origin) (z : ZoneId) (s : State) : State :=
  let r := s.zone z
  let t := if r.power = .on then (s.updZone z (fun q => { q with power := .standby })).stamp z o else s
  let u :=
    if r.sleep.isSome then (t.updZone z (fun q => { q with sleep := none })).postZone z (.zoneSleep z 0 false) o else t
  goStandby o z u

/-- The result of ZONE_POWER: the power field. -/
def powerReply (z : ZoneId) (s : State) : State × Reply := (s, .done .ok 0 (u8 (s.zone z).power.code))

/-- ZONE_POWER toggle (R3). -/
def powerToggle (o : Origin) (z : ZoneId) (s : State) : State :=
  match (s.zone z).power with
  | .standby => powerOn o z s
  | .on => powerStandby o z s

/-! ## Source (R7 to R9, R23) -/

/-- ZONE_SOURCE by the zone's state (R7 to R9). -/
def giveSource (o : Origin) (z : ZoneId) (x : Src) (s : State) : State × Status :=
  let r := s.zone z
  match r.state with
  | .standby =>
    if x = r.source then (s, .ok)
    else ((s.updZone z (fun q => { q with source := x })).postZone z (.zoneSource z x) o, .ok)
  | .acquiring =>
    if x = r.source then (reevaluateFor o z (selectSource o z x s), .ok)
    else
      let t := ((releaseZone z s).updZone z (fun q => { q with source := x })).postZone z (.zoneSource z x) o
      (sweepGranted (reevaluateFor o z (selectSource o z x (joinListeners z x t))), .ok)
  | .playing => if x = r.source then (s, .ok) else (enterSwitching z (some x) o s, .ok)
  | .switching =>
    if r.standbyFlag then (s, .busy)
    else if r.pending = some x then (s, .ok)
    else if x = r.source then (sweepGranted (cancelSwitch z o s), .ok)
    else ((s.updZone z (fun q => { q with pending := some x })).stamp z o, .ok)

/-- Whether a ZONE_SOURCE is refused BUSY: the zone drains toward STANDBY (R9). -/
def sourceBusy (s : State) (z : ZoneId) : Bool := (s.zone z).state == .switching && (s.zone z).standbyFlag

/-- A request's ZONE_SOURCE takes a taken zone out of the announcement's set and clears its saved source, a change of the record (R7, R14, R178). -/
def leaveTaken (o : Origin) (z : ZoneId) (s : State) : State :=
  if s.sdd.ann.taken.has z then
    dropTaken z (if (s.zone z).saved.isSome then (s.updZone z (fun q => { q with saved := none })).stamp z o else s)
  else s

/-- ZONE_SOURCE (R7). -/
def zoneSource (o : Origin) (z : ZoneId) (id : Nat) (s : State) : State × Reply :=
  match srcOfId id with
  | none => (s, .plain .badArgument)
  | some x =>
    if sourceBusy s z then (s, .plain .busy)
    else
      let (t, st) := giveSource o z x (leaveTaken o z s)
      (t, .done st 0 (u8 id))

/-- ZC takes a zone for an announcement (R23). -/
def takeZone (z : ZoneId) (s : State) : State :=
  let r := s.zone z
  let chosen := match r.pending with | some x => x | none => r.source
  if chosen = .tuner then s
  else (giveSource .part z .tuner ((s.updZone z (fun q => { q with saved := some chosen })).stamp z .part)).1

/-- ZC returns a zone at the end of an announcement (R23). -/
def returnZone (z : ZoneId) (s : State) : State :=
  match (s.zone z).saved with
  | none => s
  | some x => (giveSource .part z x ((s.updZone z (fun q => { q with saved := none })).stamp z .part)).1

/-! ## Volume, mute, announcement settings, limits, ring (R15 to R19) -/

/-- A zone's V takes a value, with a notice if it changes (R15). -/
def setVolume (o : Origin) (z : ZoneId) (v : Int) (s : State) : State :=
  if v = (s.zone z).volume then s
  else (s.updZone z (fun q => { q with volume := v })).postZone z (.zoneVolume z v) o

/-- ZONE_VOLUME (R15). -/
def zoneVolume (o : Origin) (z : ZoneId) (a : VolumeArg) (s : State) : State × Reply :=
  let asked := match a with
    | .absolute v => v
    | .relative d => (s.zone z).volume + d
  let v := clampInt floorLevel (s.zone z).ceiling asked
  (setVolume o z v s, .done (clampStatus asked v) 0 (s16 v))

/-- ZONE_MUTE (R16). -/
def zoneMute (o : Origin) (z : ZoneId) (a : MuteArg) (s : State) : State × Reply :=
  let r := s.zone z
  let m := match a with
    | .on => true
    | .off => false
    | .toggle => !r.mute
  if m = r.mute then (s, .done .ok 0 (flagByte m))
  else
    let t := s.updZone z (fun q => { q with mute := m })
    let u := if m && r.snapOnMute then snapZone z t else t
    (u.postZone z (.zoneMute z m) o, .done .ok 0 (flagByte m))

/-- ZONE_ANNOUNCE (R17).
DEDUCED (log entry 17): the result is the follow flag and then the applied level, after OK and CLAMPED alike. -/
def zoneAnnounce (o : Origin) (z : ZoneId) (follow : Bool) (level : Int) (s : State) : State × Reply :=
  let v := clampInt floorLevel (s.zone z).ceiling level
  let t := s.updZone z (fun q => { q with follow := follow, minLevel := v })
  (if t.zone z = s.zone z then s else t.stamp z o, .done (clampStatus level v) 0 (flagByte follow ++ s16 v))

/-- ZONE_LIMITS (R18), with the bound cuts it causes (R73).
DEDUCED (log entry 17): the result is the applied ceiling, the ramp rate and the snap-on-mute flag, after OK and CLAMPED alike. -/
def zoneLimits (o : Origin) (z : ZoneId) (ceiling : Int) (ramp : Nat) (snapFlag : Bool) (s : State) : State × Reply :=
  if 1 ≤ ramp ∧ ramp ≤ 16 then
    let c := clampInt (-40) 36 ceiling
    let t := s.updZone z (fun q => { q with ceiling := c, ramp := ramp, snapOnMute := snapFlag, minLevel := min q.minLevel c })
    let u := setVolume o z (min (t.zone z).volume c) (if t.zone z = s.zone z then s else t.stamp z o)
    (boundCuts (fun p => outZone s p == some z) u, .done (clampStatus ceiling c) 0 (s8 c ++ u8 ramp ++ flagByte snapFlag))
  else (s, .plain .badArgument)

/-- ZONE_SOURCE_RING (R19).
DEDUCED (log entry 17): the result is the ids of the ring, one byte each, with no count byte before them. -/
def zoneSourceRing (o : Origin) (z : ZoneId) (ids : List Nat) (s : State) : State × Reply :=
  match allSome srcOfId ids with
  | some l =>
    if 1 ≤ l.length ∧ l.length ≤ 11 ∧ distinct ids = true then
      let t := s.updZone z (fun q => { q with ring := l })
      (if t.zone z = s.zone z then s else t.stamp z o, .done .ok 0 (l.flatMap (fun x => u8 x.id)))
    else (s, .plain .badArgument)
  | none => (s, .plain .badArgument)

/-- The entry after a source in a ring, the first entry following the last (R19). -/
def afterIn (x first : Src) : List Src → Option Src
  | [] => none
  | [a] => if a = x then some first else none
  | a :: b :: l => if a = x then some b else afterIn x first (b :: l)

/-- The ring successor of a zone's source (R19). -/
def ringSuccessor (r : ZoneRec) : Src :=
  match r.ring with
  | [] => r.source
  | first :: _ =>
    match afterIn r.source first r.ring with
    | some y => y
    | none => first

/-! ## Sleep (R21, R22) -/

/-- ZONE_SLEEP (R21). -/
def zoneSleep (o : Origin) (z : ZoneId) (minutes : Nat) (s : State) : State × Reply :=
  if (s.zone z).power = .standby then (s, .plain .notAvailable)
  else if minutes = 0 then
    if (s.zone z).sleep.isSome then
      ((s.updZone z (fun q => { q with sleep := none })).postZone z (.zoneSleep z 0 false) o, .done .ok 0 (u8 0))
    else (s, .done .ok 0 (u8 0))
  else
    let n := min minutes 180
    ((s.updZone z (fun q => { q with sleep := some ⟨n, 0⟩ })).postZone z (.zoneSleep z n false) o,
      .done (if minutes ≤ 180 then .ok else .clamped) 0 (u8 n))

/-- A sleep expires (R22). -/
def sleepExpire (z : ZoneId) (s : State) : State :=
  let t := (s.updZone z (fun q => { q with sleep := none })).postZone z (.zoneSleep z 0 true) .part
  goStandby .part z ((t.updZone z (fun q => { q with power := .standby })).stamp z .part)

/-- The sleep prescaler wraps (R22): a minute less, and at 0 minutes the expiry. -/
def sleepMinute (z : ZoneId) (s : State) : State :=
  match (s.zone z).sleep with
  | none => s
  | some k =>
    if k.minutes ≤ 1 then sleepExpire z s
    else s.updZone z (fun q => { q with sleep := some ⟨k.minutes - 1, 0⟩ })

/-! ## ZONE_QUERY (R20) -/

/-- A zone's position on the converter wait list, counted from 1. -/
def waitPosition (s : State) (z : ZoneId) : Option Nat := (s.zc.convWait.findIdx? (fun y => y == z)).map (fun i => i + 1)

/-- The result of a ZONE_QUERY, coded by R196. -/
def zoneResult (s : State) (z : ZoneId) : List Byte :=
  let r := s.zone z
  u8 r.power.code ++ u8 r.state.code ++ u8 r.source.id ++ optBytes (fun x => u8 (Src.id x)) r.pending ++
    flagByte r.standbyFlag ++ optBytes (fun o => u8 (Origin.code o)) r.switchOrigin ++
    optBytes (fun w => u8 (WaitReason.code w)) r.wait ++ s16 r.volume ++ flagByte r.mute ++ s8 r.ceiling ++ u8 r.ramp ++
    flagByte r.snapOnMute ++ optBytes (fun k => u8 (Sleep.minutes k) ++ u16 (Sleep.prescaler k)) r.sleep ++
    flagByte r.follow ++ s16 r.minLevel ++ optBytes (fun x => u8 (Src.id x)) r.saved ++
    optBytes (fun e => u8 (EngineId.idx e).val) r.engine ++
    optBytes (fun p => u8 (match p with | PairId.cv0 => 0 | PairId.cv1 => 1)) r.pair ++
    u8 r.ring.length ++ r.ring.flatMap (fun x => u8 x.id) ++ u8 r.lastOrigin.code ++
    (if z = .main then u8 s.zc.mode.code ++ u8 s.zc.lift.toNat else []) ++ optBytes u8 (waitPosition s z)

/-- ZONE_QUERY (R20). -/
def zoneQuery (z : ZoneId) (page : Nat) (s : State) : State × Reply := (s, answerPage (zoneResult s z) page)

/-! ## SOURCE_TRIM, MAIN_MODE, DIALOGUE (R44, R59, R60) -/

/-- SOURCE_TRIM (R44), with the bound cuts it causes (R73). -/
def sourceTrim (id : Nat) (trim : Int) (s : State) : State × Reply :=
  match srcOfId id with
  | none => (s, .plain .badArgument)
  | some x =>
    let v := clampInt (-12) 12 trim
    let t := s.updSrc x (fun r => { r with trim := v })
    let plays := fun p => match outZone s p with
      | none => false
      | some z => (s.zone z).source == x
    (boundCuts plays t, .done (clampStatus trim v) 0 (s8 v))

/-- What a change of MAIN's listening mode does, the mode already stored (R59).
`before` and `after` tell whether MAIN needed and needs an engine on its source. -/
def modeChanged (o : Origin) (before after : Bool) (s : State) : State :=
  match (s.zone .main).state with
  | .standby | .switching => s
  | .acquiring =>
    if before = after then s
    else if before then reevaluateFor o .main (leaveEngine .main (leaveEngineWait .main s))
    else reevaluateFor o .main s
  | .playing => if before = after then s else enterSwitching .main (some (s.zone .main).source) o s

/-- MAIN_MODE (R59). -/
def mainMode (o : Origin) (code : Nat) (s : State) : State × Reply :=
  match modeOfCode code with
  | none => (s, .plain .badArgument)
  | some m =>
    if m = s.zc.mode then (s, .done .ok 0 (u8 code))
    else
      let t : State := { s with zc := { s.zc with mode := m } }
      (modeChanged o (needsEngine s .main) (needsEngine t .main) (t.stamp .main o), .done .ok 0 (u8 code))

/-- DIALOGUE (R60), with the bound cut it causes on AC2 (R73). -/
def dialogue (o : Origin) (lift : Int) (s : State) : State × Reply :=
  let v := clampInt 0 12 lift
  let t := ({ s with zc := { s.zc with lift := v } } : State).stamp .main o
  (boundCut (.ac .ac2) t, .done (clampStatus lift v) 0 (s8 v))

/-! ## CHANNEL_TRIM and LEVEL_QUERY (R74, R84) -/

/-- The trim of an output takes a value (R74). -/
def putTrim (p : OutId) (v : Int) (s : State) : State :=
  match p with
  | .ac c => s.updChan c (fun r => { r with trim := v })
  | .line l => { s with lvu := { s.lvu with lineTrims := s.lvu.lineTrims.set l.idx v } }

/-- CHANNEL_TRIM (R74), with the bound cut it causes (R73). -/
def channelTrim (code : Nat) (trim : Int) (s : State) : State × Reply :=
  match outOfCode code with
  | none => (s, .plain .badArgument)
  | some p =>
    let v := clampInt (-24) 24 trim
    (boundCut p (putTrim p v s), .done (clampStatus trim v) 0 (s8 v))

/-- The result of a LEVEL_QUERY, coded by R196.
DEDUCED (log entry 17): the limit level of an output with no zone, which R73 does not define, is returned as an absent optional field. -/
def levelResult (s : State) (p : OutId) : List Byte :=
  let r := s.lev p
  s16 r.target ++ s16 r.level ++ u24 r.gain ++ u16 r.clips ++ flagByte r.clipFlag ++ s8 (outTrim s p) ++
    optBytes (fun z => u8 (ZoneId.idx z).val) (outZone s p) ++ optBytes s16 (limitLevel s p)

/-- LEVEL_QUERY (R84). -/
def levelQuery (code page : Nat) (s : State) : State × Reply :=
  match outOfCode code with
  | none => (s, .plain .badArgument)
  | some p => (s, answerPage (levelResult s p) page)

end Sys2Proof.Machine
end

