-- ==== Sys2Proof/Machine/Announce.lean ====
section
/-! DEFINITION. The Station Data Decoder's records: what a retune clears, the announcement filter and the announcement record (R174 to R180). -/
namespace Sys2Proof.Machine

/-- SDD enters SEARCH with its word window empty and nothing read (R170, R174). -/
def StationDecoder.search (d : StationDecoder) (bits : List Bool) : StationDecoder :=
  { d with sync := .search, window := [], bits := bits, pos := .a, group := none }

/-- A retune reported by TUN (R174). -/
def retuneReported (s : State) : State :=
  { s with sdd := { s.sdd.search [] with data := .cleared, badWords := 0, otherGroups := 0 } }

def State.setAnn (s : State) (a : Announcement) : State := { s with sdd := { s.sdd with ann := a } }

/-! ## Start, end and clearing (R175 to R178) -/

/-- Whether the filter accepts an announcement of a class from a station (R175). -/
def accepts (f : AnnFilter) (cls : Nat) (code : Option (BitVec 16)) : Bool :=
  f.acceptAll || (f.home.isSome && f.home == code) || f.mask.getLsbD cls || cls == 31

/-- Whether a zone is taken when an announcement starts (R176). -/
def takeable (s : State) (z : ZoneId) : Bool :=
  let r := s.zone z
  r.power == .on && r.follow && !(r.state == .switching && r.standbyFlag)

/-- The zones of a set, in the order MAIN, Z2, Z3. -/
def zonesOf (x : ZoneSet) : List ZoneId := ZoneId.all.filter (fun z => x.has z)

/-- An accepted announcement starts the record and takes the following zones (R176). -/
def startAnnouncement (cls : Nat) (code : BitVec 16) (s : State) : State :=
  let taken : ZoneSet := ⟨takeable s .main, takeable s .z2, takeable s .z3⟩
  let t := s.setAnn ⟨.active, some 0, some cls, some code, none, taken⟩
  inEitherOrder (fun u => (zonesOf taken).foldl (fun v z => takeZone z v) u)
    (fun u => u.post (.announceStart cls code taken) .part) t

/-- An announcement ends: the record is INACTIVE, the taken zones are returned and the end is posted (R177, R178). -/
def endAnnouncement (cause : AnnCause) (s : State) : State :=
  let taken := s.sdd.ann.taken
  inEitherOrder (fun u => (zonesOf taken).foldl (fun v z => returnZone z v) u)
    (fun u => u.post (.announceEnd cause taken) .part) (s.setAnn .inactive)

/-- The hold of an ENDING announcement, in ms (R177). -/
def annHold : Nat := 2000

/-- The announcement flag is cleared: an ACTIVE record enters ENDING (R177). -/
def flagCleared (s : State) : State :=
  if s.sdd.ann.state = .active then s.setAnn { s.sdd.ann with state := .ending, hold := some annHold } else s

/-- A good type 0 group with the announcement flag set (R176, R177). -/
def flagSeen (cls : Nat) (code : BitVec 16) (s : State) : State :=
  if accepts s.sdd.filter cls (some code) then
    match s.sdd.ann.state with
    | .inactive => startAnnouncement cls code s
    | .active => s
    | .ending => s.setAnn { s.sdd.ann with state := .active, hold := none }
  else s

/-- The tuner leaves IDLE: an announcement in progress ends at once (R178). -/
def announceLeaveIdle (s : State) : State :=
  if s.sdd.ann.state = .inactive then s else endAnnouncement .retune s

/-- The hold runs out (R177). -/
def holdExpiry (s : State) : State := if s.sdd.ann.state = .ending then endAnnouncement .holdExpired s else s

/-! ## ANNOUNCE_FILTER and STATION_DATA_QUERY -/

/-- ANNOUNCE_FILTER (R175). -/
def announceFilter (home : Option (BitVec 16)) (mask : BitVec 32) (acceptAll : Bool) (s : State) : State × Reply :=
  ({ s with sdd := { s.sdd with filter := ⟨home, mask, acceptAll⟩ } }, .plain .ok)

def segmentBytes (x : Segments) : List Byte :=
  optBytes (fun p => [Prod.fst p, Prod.snd p]) x.candidate ++ optBytes (fun p => [Prod.fst p, Prod.snd p]) x.confirmed

/-- The result of a STATION_DATA_QUERY (R180), coded by R196.
DEDUCED (log entry 17): the word window stands oldest entry first, and the announcement's class and station code, one row of R176, have a presence byte each. -/
def stationDataResult (s : State) : List Byte :=
  let d := s.sdd
  let a := d.ann
  u8 d.sync.code ++ u8 d.window.length ++ d.window.flatMap (fun good => flagByte (!good)) ++ optBytes codeWord d.data.code ++
    optBytes u8 d.data.cls ++ flagByte d.data.traffic ++ flagByte d.data.announcement ++
    d.data.segments.entries.flatMap segmentBytes ++ optBytes (fun n => n) d.data.name ++ u8 d.data.afList.length ++
    d.data.afList.flatMap u8 ++ u16 d.badWords ++ u16 d.otherGroups ++ optBytes codeWord d.filter.home ++
    u32 d.filter.mask.toNat ++ flagByte d.filter.acceptAll ++ u8 a.state.code ++ optBytes u32 a.time ++
    optBytes u8 a.cls ++ optBytes codeWord a.code ++ optBytes u16 a.hold ++ u8 a.taken.bits

/-- STATION_DATA_QUERY (R180). -/
def stationDataQuery (page : Nat) (s : State) : State × Reply := (s, answerPage (stationDataResult s) page)

end Sys2Proof.Machine
end

