-- ==== Sys2Proof/Machine/Tuner.lean ====
section
/-! DEFINITION. The Tuner: bands, dwells, operations, the baseline, the station list, presets, alternate-frequency checks and its requests (R144 to R165). -/
namespace Sys2Proof.Machine

/-! ## Bands (R144) -/

/-- The highest channel of a band under an AM raster (R144). -/
def chanMax (raster : Nat) : Band → Nat
  | .fm => 410
  | .am => if raster = 9 then 122 else 118

/-- The distance between raster channels (R144). -/
def rasterStep (r : TunerRec) : Band → Nat
  | .fm => r.step
  | .am => 1

/-- The highest raster channel of a band. -/
def rasterTop (r : TunerRec) (b : Band) : Nat := chanMax r.raster b / rasterStep r b * rasterStep r b

/-- The frequency of an AM channel, in kHz (R144). -/
def amFreq (raster c : Nat) : Nat := if raster = 9 then 522 + 9 * c else 530 + 10 * c

/-- The AM channel of a frequency on a raster, if it is one (R144). -/
def amChan (raster f : Nat) : Option Nat :=
  let base := if raster = 9 then 522 else 530
  let gap := if raster = 9 then 9 else 10
  if base ≤ f ∧ (f - base) % gap = 0 ∧ (f - base) / gap ≤ chanMax raster .am then some ((f - base) / gap) else none

/-- The frequency a preset holds for a channel (R144, R157). -/
def presetFreq (raster : Nat) : Band → Nat → Nat
  | .fm, c => 8750 + 5 * c
  | .am, c => amFreq raster c

/-- Whether a frequency of a preset names a channel (R158, R159). -/
def presetChan (raster : Nat) : Band → Nat → Option Nat
  | .fm, f => if 8750 ≤ f ∧ f ≤ 10800 ∧ (f - 8750) % 5 = 0 then some ((f - 8750) / 5) else none
  | .am, f => amChan raster f

/-! ## Dwells (R147) -/

/-- The length of a dwell, in ms (R147). -/
def dwellMs (cold : Bool) : Band → Nat
  | .fm => if cold then 40 else 8
  | .am => if cold then 100 else 20

def State.setTun (s : State) (r : TunerRec) : State := { s with tun := r }

/-- A dwell starts, and TUN reports the retune to SDD; on AM the stereo flag is false (R147). -/
def startDwell (cold back : Bool) (b : Band) (c : Nat) (s : State) : State :=
  retuneReported (s.setTun { s.tun with
    band := b, channel := c, stereo := s.tun.stereo && b == .fm, dwell := some ⟨cold, dwellMs cold b, back⟩ })

/-- A measurement enters the quality field and the stereo flag (R147). -/
def TunerRec.measure (r : TunerRec) (q : Nat) (pilot : Bool) : TunerRec :=
  { r with quality := min 100 q, stereo := pilot && r.band == .fm }

/-! ## Leaving and entering IDLE (R146) -/

/-- The time between two measurements of the quality monitor, in ms (R147). -/
def monitorMs : Nat := 100

/-- The tuner leaves IDLE: SIU and ZC are told, an engine bound to the tuner takes the format NONE, and SDD is told (R31, R53, R146). -/
def leaveIdle (st : TunerState) (o : Origin) (s : State) : State :=
  let t := tunerAbsent (s.setTun { s.tun with state := st, opOrigin := some o, weak := none })
  announceLeaveIdle (enginePart .tuner (loseAudioAll (listenersOf t .tuner) .tuner t))

/-- The tuner record at the end of an operation, its slot apart. -/
def TunerRec.opEnded (r : TunerRec) : TunerRec :=
  { r with
    dwell := none
    start := none
    ret := none
    scan := none
    af := none
    weak := none
    stopping := false
    seekUp := true
    visited := 0
    ticket := none }

/-- The tuner enters IDLE: SIU is told; ZC, the Decode Engines (the format PCM2 of R31, by R52 and R53) and the TUNED notice follow in any order (R146, R164). -/
def enterTunerIdle (op : TunedOp) (st : Status) (changed : Bool) (s : State) : State :=
  let r := { s.tun.opEnded with state := .idle, monitor := monitorMs }
  let o := match r.opOrigin with | some o => o | none => .part
  handOn .tuner (fun t => reevaluateAll (listenersOf t .tuner) t)
    (fun t => t.post (.tuned r.band r.channel r.quality op st changed) o) (tunerLocked (s.setTun r))

/-- The result of a tune or seek: band, channel, quality (R148, R150). -/
def tuneResult (r : TunerRec) : List Byte := u8 r.band.code ++ u16 r.channel ++ u8 r.quality

/-- An operation ends in IDLE and its slot completes (R148, R150, R153).
DEDUCED (log entry 21): the TUNED notice of the entry to IDLE is queued before the slot's REQUEST_DONE, as those rules speak of IDLE first; the worked sequence of section 8.5 speaks of the slot first. -/
def endOperation (op : TunedOp) (st : Status) (data : List Byte) (s : State) : State :=
  (enterTunerIdle op st false s).completeOpt s.tun.ticket st data

/-- An operation starts: from IDLE by leaving it, from another state by replacing what is in progress (R146, R149). -/
def startOperation (st : TunerState) (o : Origin) (s : State) : State :=
  if s.tun.state = .idle then leaveIdle st o s
  else
    (s.completeOpt s.tun.ticket .aborted []).setTun { s.tun.opEnded with state := st, opOrigin := some o }

/-- The tuner tunes to a channel (R148). -/
def tuneTo (o : Origin) (b : Band) (c : Nat) (k : Option Ticket) (s : State) : State :=
  let t := startOperation .tuning o s
  startDwell true false b c (t.setTun { t.tun with ticket := k })

/-! ## The baseline (R151) -/

def TunerRec.baseline (r : TunerRec) : Band → Nat
  | .fm => r.baseFm
  | .am => r.baseAm

/-- Whether a measurement qualifies (R151). -/
def qualifies (r : TunerRec) (q : Nat) : Bool := decide (r.baseline r.band / 16 + r.margin ≤ q)

/-- A baseline fed with a failing measurement (R151). -/
def baselineNext (b q : Nat) : Nat := (clampInt 0 1600 ((b : Int) + (16 * (q : Int) - b) / 8)).toNat

/-- The failing measurement feeds the baseline of the band searched (R151). -/
def feedBaseline (q : Nat) (s : State) : State :=
  match s.tun.band with
  | .fm => s.setTun { s.tun with baseFm := baselineNext s.tun.baseFm q }
  | .am => s.setTun { s.tun with baseAm := baselineNext s.tun.baseAm q }

/-! ## Seek (R150) -/

/-- The next channel a seek visits (R150).
DEDUCED (log entry 37): UP from a start channel above the highest raster channel, which has no raster channel above it, wraps to channel 0 as from the highest. -/
def seekNext (r : TunerRec) : Nat :=
  let p := rasterStep r r.band
  if r.seekUp then
    let c := (r.channel / p + 1) * p
    if c ≤ chanMax r.raster r.band then c else 0
  else if r.channel = 0 then rasterTop r r.band
  else (r.channel - 1) / p * p

/-- How many channels a seek visits at most: the raster channels other than the start channel (R150). -/
def seekTotal (r : TunerRec) (start : Nat) : Nat :=
  chanMax r.raster r.band / rasterStep r r.band + (if start % rasterStep r r.band = 0 then 0 else 1)

/-- A seek goes on: a hot dwell on the next channel, or the return dwell when every channel has been visited (R150). -/
def seekOn (s : State) : State :=
  let r := s.tun
  match r.start with
  | none => s
  | some c =>
    if r.visited < seekTotal r c then
      startDwell false false r.band (seekNext r) (s.setTun { r with visited := r.visited + 1 })
    else startDwell true true r.band c s

/-- TUNER_SEEK (R150). -/
def tunerSeek (o : Origin) (dir : Nat) (k : Ticket) (s : State) : State × Reply :=
  if dir ≤ 1 then
    let t := startOperation .seeking o s
    (seekOn (t.setTun { t.tun with start := some t.tun.channel, seekUp := dir == 0, visited := 0, ticket := some k }), .later)
  else (s, .plain .badArgument)

/-! ## Scan and station list (R152 to R154) -/

/-- Whether an entry of the station list stands before a band and channel (R154). -/
def Station.before (x : Station) (b : Band) (c : Nat) : Bool :=
  decide (x.band.code < b.code) || (x.band == b && decide (x.channel < c))

/-- The station list with an entry inserted at its place (R154). -/
def insertStation (l : List Station) (x : Station) : List Station :=
  let m := l.filter (fun y => !(y.band == x.band && y.channel == x.channel))
  m.takeWhile (fun y => y.before x.band x.channel) ++ x :: m.dropWhile (fun y => y.before x.band x.channel)

/-- The lowest quality at find of a list. -/
def lowestQuality (l : List Station) : Nat := l.foldl (fun n x => min n x.quality) 100

/-- The most entries the station list holds (R154). -/
def stationMax : Nat := 40

/-- A station is offered to the station list: the list after it, and whether it was taken (R154). -/
def offerStation (l : List Station) (x : Station) : List Station × Bool :=
  if l.length < stationMax then (insertStation l x, true)
  else
    let low := lowestQuality l
    if low < x.quality then (insertStation (l.eraseP (fun y => y.quality == low)) x, true) else (l, false)

/-- A confirmed station is counted and offered (R153). -/
def stationFound (s : State) : State :=
  let r := s.tun
  let (l, taken) := offerStation r.stations ⟨r.band, r.channel, r.quality, none, none⟩
  s.setTun { r with
    stations := l
    scan := r.scan.map (fun k => { k with found := k.found + 1, inserted := if taken then k.inserted + 1 else k.inserted }) }

/-- A scan goes on: a hot dwell on the next channel, or the return dwell after the last (R153).
DEDUCED (log entry 37): the range's next channel to visit is the last one visited plus the step, also after the last, where it may lie above the range and the band. -/
def scanOn (s : State) : State :=
  match s.tun.scan, s.tun.ret with
  | some k, some (b, c) =>
    if k.next ≤ k.last then
      startDwell false false k.band k.next
        (s.setTun { s.tun with scan := some { k with next := k.next + rasterStep s.tun k.band } })
    else startDwell true true b c s
  | _, _ => s

/-- The first raster channel at or above a channel. -/
def rasterFrom (step c : Nat) : Nat := (c + step - 1) / step * step

/-- A scan that passes its checks starts (R153).
DEDUCED (log entry 37): the next channel to visit is the first raster channel at or above the range's first, also where that lies above the range and nothing is visited. -/
def scanStart (o : Origin) (b : Band) (first last : Nat) (k : Ticket) (s : State) : State :=
  let back := (s.tun.band, s.tun.channel)
  let t := leaveIdle .scanning o s
  let r := t.tun
  scanOn (t.setTun { r with
    ret := some back
    scan := some ⟨b, first, last, rasterFrom (rasterStep r b) first, 0, 0⟩
    stations := r.stations.filter (fun x => !(x.band == b && decide (first ≤ x.channel) && decide (x.channel ≤ last)))
    ticket := some k })

/-- TUNER_SCAN (R152). -/
def tunerScan (o : Origin) (band first last : Nat) (force : Bool) (k : Ticket) (s : State) : State × Reply :=
  match bandOfCode band with
  | none => (s, .plain .badArgument)
  | some b =>
    if chanMax s.tun.raster b < first ∨ chanMax s.tun.raster b < last ∨ last < first then (s, .plain .badArgument)
    else if s.tun.state ≠ .idle then (s, .plain .busy)
    else if s.sdd.ann.state ≠ .inactive then (s, .plain .tunerInUse)
    else if (s.src .tuner).listeners.isEmpty = false ∧ force = false then (s, .plain .tunerInUse)
    else (scanStart o b first last k s, .later)

/-! ## Alternate-frequency checks (R160, R161) -/

/-- The AF conditions (R160). -/
def afConditions (s : State) : Bool :=
  s.tun.state == .idle && s.tun.band == .fm &&
    ZoneId.all.any (fun z => (s.zone z).source == .tuner && (s.zone z).state == .playing) &&
    s.sdd.ann.state == .inactive && s.sdd.data.code.isSome && !s.sdd.data.afList.isEmpty

/-- The entries of the check list still to come, with their places, from a place on. -/
def afFrom (l : List Nat) (pos : Nat) : List (Nat × Nat) := (l.drop pos).zipIdx pos

/-- An AF check goes on with the first entry at or after a place that is not the return point's channel (R161).
DEDUCED (log entry 17): the position in the list counts from 0 and names the entry whose dwell is in progress; the return dwell leaves it at the last entry dwelt on, or at 0 where none was. -/
def afOn (pos : Nat) (s : State) : State :=
  match s.tun.af, s.tun.ret with
  | some a, some (b, c) =>
    match (afFrom a.list pos).find? (fun e => e.1 != c) with
    | some (ch, i) => startDwell false false .fm ch (s.setTun { s.tun with af := some { a with pos := i } })
    | none => startDwell true true b c s
  | _, _ => s

/-- An AF check begins (R161). -/
def afBegin (code : BitVec 16) (s : State) : State :=
  let a : AfRecord := ⟨code, s.tun.quality, s.sdd.data.afList.map (fun n => 2 * n), 0⟩
  let back := (s.tun.band, s.tun.channel)
  let t := leaveIdle .afCheck .part s
  afOn 0 (t.setTun { t.tun with af := some a, ret := some back })

/-- SDD reports a good group's station code: an entry of a check passes (R161, R171). -/
def codeReported (code : BitVec 16) (s : State) : State :=
  match s.tun.state, s.tun.af, s.tun.dwell with
  | .afCheck, some a, some d =>
    if d.cold && !d.back && a.code == code then enterTunerIdle .afCheck .ok true s else s
  | _, _, _ => s

/-- The weak-signal time, in ms (R160). -/
def weakMs : Nat := 3000

/-- A measurement of the quality monitor (R147, R160). -/
def monitorMeasure (q : Nat) (pilot : Bool) (s : State) : State :=
  let r := { s.tun.measure q pilot with monitor := monitorMs }
  let t := s.setTun r
  if afConditions t && decide (r.quality < r.baseFm / 16 + r.afMargin) then
    t.setTun { r with weak := match r.weak with | some w => some w | none => some weakMs }
  else t.setTun { r with weak := none }

/-- The weak-signal timer expires (R160). -/
def weakExpiry (s : State) : State :=
  let t := s.setTun { s.tun with weak := none }
  match s.sdd.data.code with
  | some code => if afConditions t then afBegin code t else t
  | none => t

/-! ## The end of a dwell -/

/-- A seek or scan judges a measurement: a hot one that qualifies is confirmed, one that fails feeds the baseline (R150, R151, R153). -/
def searchJudge (d : Dwell) (found next : State → State) (s : State) : State :=
  if qualifies s.tun s.tun.quality then
    if d.cold then found s else startDwell true false s.tun.band s.tun.channel s
  else next (feedBaseline s.tun.quality s)

/-- A dwell ends with its measurement (R147), and the operation goes on.
A seek that finds nothing completes with the quality of its return dwell alone (R150). -/
def endDwell (q : Nat) (pilot : Bool) (s : State) : State :=
  match s.tun.dwell with
  | none => s
  | some d =>
    let t := s.setTun { s.tun.measure q pilot with dwell := none }
    let r := t.tun
    match r.state with
    | .idle => t
    | .tuning =>
      if r.stopping then enterTunerIdle .stop .aborted false t else endOperation .tune .ok (tuneResult r) t
    | .seeking =>
      if d.back then endOperation .seek .noneFound (u8 r.quality) t
      else searchJudge d (fun u => endOperation .seek .ok (tuneResult u.tun) u) seekOn t
    | .scanning =>
      if d.back then
        endOperation .scan .ok (match r.scan with | some k => u16 k.found ++ u16 k.inserted | none => []) t
      else searchJudge d (fun u => scanOn (stationFound u)) scanOn t
    | .afCheck =>
      if d.back then enterTunerIdle .afCheck .ok false t
      else
        match r.af with
        | none => t
        | some a =>
          if d.cold || decide (r.quality < a.q0 + 10) then afOn (a.pos + 1) t
          else startDwell true false r.band r.channel t

/-! ## TUNER_TUNE and TUNER_STOP -/

/-- TUNER_TUNE (R148). -/
def tunerTune (o : Origin) (band channel : Nat) (k : Ticket) (s : State) : State × Reply :=
  match bandOfCode band with
  | none => (s, .plain .badArgument)
  | some b =>
    if channel ≤ chanMax s.tun.raster b then (tuneTo o b channel (some k) s, .later) else (s, .plain .badArgument)

/-- A scan or a check is stopped: TUNING with a cold dwell on the return point, or the return dwell in progress (R156). -/
def stopReturning (o : Origin) (s : State) : State :=
  let r := s.tun
  let t := (s.completeOpt r.ticket .aborted []).setTun
    { r.opEnded with state := .tuning, opOrigin := some o, stopping := true }
  match r.dwell, r.ret with
  | some d, some (b, c) => if d.back then t.setTun { t.tun with dwell := some d } else startDwell true false b c t
  | none, some (b, c) => startDwell true false b c t
  | _, none => t

/-- TUNER_STOP (R156). -/
def tunerStop (o : Origin) (s : State) : State × Reply :=
  match s.tun.state with
  | .idle | .tuning => (s, .plain .ok)
  | .seeking =>
    (enterTunerIdle .stop .aborted false
      ((s.completeOpt s.tun.ticket .aborted []).setTun { s.tun with opOrigin := some o }), .plain .ok)
  | .scanning | .afCheck => (stopReturning o s, .plain .ok)

/-! ## Presets (R157 to R159) -/

/-- The name of a preset, eight characters. -/
def presetName (n : Option (List Byte)) : List Byte := match n with | some l => fitBytes 8 l | none => fitBytes 8 []

/-- PRESET_STORE (R157). -/
def presetStore (index : Nat) (s : State) : State × Reply :=
  match indexOf40 index with
  | none => (s, .plain .badArgument)
  | some i =>
    if s.tun.state = .idle then
      let p : Preset := ⟨s.tun.band, presetFreq s.tun.raster s.tun.band s.tun.channel,
        if s.tun.band = .fm then s.sdd.data.name else none⟩
      (s.setTun { s.tun with presets := s.tun.presets.set i (some p) },
        .done .ok 0 (u8 p.band.code ++ u16 p.freq ++ presetName p.name))
    else (s, .plain .busy)

/-- PRESET_RECALL (R158). -/
def presetRecall (o : Origin) (index : Nat) (s : State) : State × Reply :=
  match indexOf40 index with
  | none => (s, .plain .badArgument)
  | some i =>
    match s.tun.presets.get i with
    | none => (s, .plain .notAvailable)
    | some p =>
      match presetChan s.tun.raster p.band p.freq with
      | none => (s, .plain .notAvailable)
      | some c =>
        (tuneTo o p.band c none (s.setTun { s.tun with lastPreset := some i }), .done .ok 0 (u8 p.band.code ++ u16 c))

/-- The first non-empty preset among a number of entries from an index on, 0 following 39 (R158). -/
def presetSearch (t : Tab 40 (Option Preset)) : Nat → Fin 40 → Option (Fin 40)
  | 0, _ => none
  | k + 1, i => if (t.get i).isSome then some i else presetSearch t k (i + 1)

/-- The preset successor (R158). -/
def presetSuccessor (r : TunerRec) : Option (Fin 40) :=
  match r.lastPreset with
  | none => presetSearch r.presets 40 0
  | some i => presetSearch r.presets 40 (i + 1)

/-- The preset an upload entry stands for, where the entry is valid (R159). -/
def uploadPreset (raster : Nat) (e : UploadEntry) : Option (Fin 40 × Option Preset) :=
  match indexOf40 e.index, e.content with
  | none, _ => none
  | some i, none => some (i, none)
  | some i, some (band, f, name) =>
    match bandOfCode band with
    | none => none
    | some b =>
      if (presetChan raster b f).isSome && (match name with | some n => decide (n.length ≤ 8) | none => true) then
        some (i, some ⟨b, f, name⟩)
      else none

/-- PRESET_UPLOAD (R159). -/
def presetUpload (list : List UploadEntry) (s : State) : State × Reply :=
  match allSome (uploadPreset s.tun.raster) list with
  | none => (s, .plain .badArgument)
  | some l =>
    if distinct (list.map (fun e => e.index)) then
      (s.setTun { s.tun with presets := l.foldl (fun t e => t.set e.1 e.2) s.tun.presets }, .plain .ok)
    else (s, .plain .badArgument)

/-- PRESET_READ (R159). -/
def presetRead (index page : Nat) (s : State) : State × Reply :=
  match indexOf40 index with
  | none => (s, .plain .badArgument)
  | some i =>
    (s, answerPage (optBytes (fun p => u8 (Band.code p.band) ++ u16 p.freq ++ optBytes (fitBytes 8) p.name)
      (s.tun.presets.get i)) page)

/-! ## Station list and commits (R155) -/

/-- The entry of the channel the tuner stands on takes a committed value, while the tuner is IDLE (R155). -/
def commitStation (f : Station → Station) (s : State) : State :=
  if s.tun.state = .idle then
    s.setTun { s.tun with stations := s.tun.stations.map (fun x =>
      if x.band = s.tun.band ∧ x.channel = s.tun.channel then f x else x) }
  else s

def stationBytes (x : Station) : List Byte :=
  u8 x.band.code ++ u16 x.channel ++ u8 x.quality ++ optBytes codeWord x.code ++ optBytes (fitBytes 8) x.name

/-- STATION_READ (R155). -/
def stationRead (page index : Nat) (s : State) : State × Reply :=
  if index < 40 then
    match s.tun.stations[index]? with
    | some x => (s, answerPage (stationBytes x) page)
    | none => (s, .plain .notAvailable)
  else (s, .plain .badArgument)

/-! ## Region, thresholds, query (R162, R163, R165) -/

/-- Whether a preset lies on a raster (R162). -/
def onRaster (step raster : Nat) (p : Preset) : Bool :=
  match presetChan raster p.band p.freq with
  | none => false
  | some c => match p.band with | .fm => c % step == 0 | .am => true

/-- The settings, list, baselines and presets after a TUNER_REGION (R162, steps 1 to 3). -/
def TunerRec.region (r : TunerRec) (step raster : Nat) : TunerRec :=
  { r with
    step := step
    raster := raster
    stations := []
    baseFm := 160
    baseAm := 160
    presets := r.presets.map (fun p => match p with
      | some q => if onRaster step raster q then some q else none
      | none => none) }

/-- A tuner on AM is renumbered, or tunes to channel 0 (R162, step 4). -/
def regionRetune (freq raster : Nat) (s : State) : State :=
  match amChan raster freq with
  | some c => s.setTun { s.tun with channel := c }
  | none => startDwell true false .am 0 (leaveIdle .tuning .s s)

/-- TUNER_REGION (R162).
DEDUCED (log entry 21): the REGION notice is queued before the REQUEST_DONE, though R162 names the completion first. -/
def tunerRegion (step raster : Nat) (s : State) : State × Reply :=
  if (step = 1 ∨ step = 2 ∨ step = 4) ∧ (raster = 9 ∨ raster = 10) then
    if s.tun.state ≠ .idle ∨
        (listenersOf s .tuner).any (fun z => (s.zone z).state == .playing || (s.zone z).state == .switching) = true then
      (s, .plain .tunerInUse)
    else
      let t := s.setTun (s.tun.region step raster)
      let u := match s.tun.band with
        | .fm => t
        | .am => regionRetune (amFreq s.tun.raster s.tun.channel) raster t
      (u.post (.region step raster) .s, .plain .ok)
  else (s, .plain .badArgument)

/-- TUNER_THRESHOLDS (R163). -/
def tunerThresholds (margin afMargin : Nat) (s : State) : State × Reply :=
  if margin ≤ 50 ∧ afMargin ≤ 50 then (s.setTun { s.tun with margin := margin, afMargin := afMargin }, .plain .ok)
  else (s, .plain .badArgument)

/-- The result of a TUNER_QUERY (R165), coded by R196.
DEDUCED (log entry 17): region step and AM raster are returned as their numbers, the position of an AF check counts from 0. -/
def tunerResult (r : TunerRec) : List Byte :=
  u8 r.band.code ++ u16 r.channel ++ u8 r.state.code ++ u8 r.quality ++ flagByte r.stereo ++
    optBytes (fun o => u8 (Origin.code o)) r.opOrigin ++ optBytes (fun d => flagByte (Dwell.cold d) ++ u8 (Dwell.left d)) r.dwell ++
    optBytes u16 r.start ++ optBytes (fun p => u8 (Band.code p.1) ++ u16 p.2) r.ret ++
    optBytes (fun k => u8 (Band.code (ScanRange.band k)) ++ u16 k.first ++ u16 k.last ++ u16 k.next ++ u16 k.found ++
      u16 k.inserted) r.scan ++
    optBytes (fun a => codeWord (AfRecord.code a) ++ u8 a.q0 ++ u8 a.list.length ++ a.list.flatMap u16 ++ u8 a.pos) r.af ++
    u8 (r.baseFm / 16) ++ u8 (r.baseAm / 16) ++ u8 r.step ++ u8 r.raster ++ u8 r.margin ++ u8 r.afMargin ++
    optBytes u16 r.weak ++ optBytes (fun i => u8 (Fin.val i)) r.lastPreset ++ u8 r.stations.length

/-- TUNER_QUERY (R165). -/
def tunerQuery (page : Nat) (s : State) : State × Reply := (s, answerPage (tunerResult s.tun) page)

end Sys2Proof.Machine
end

