-- ==== Sys2Proof/Machine/Keypad.lean ====
section
/-! DEFINITION. The Keypad Port: messages, receive buffer, key records, actions, readback and its requests (R198 to R204). -/
namespace Sys2Proof.Machine

/-- The permission a zone request needs, held or not (R186, R190). -/
def zoneAllowed (p : PermSet) : ZoneId → Bool
  | .main => p.zoneMain
  | .z2 => p.zone2
  | .z3 => p.zone3

def State.setKpp (s : State) (k : Keypads) : State := { s with kpp := k }

/-- The ignored count increases by 1, holding at 65,535 (R199). -/
def countIgnored (s : State) : State := s.setKpp { s.kpp with ignored := min 65535 (s.kpp.ignored + 1) }

/-! ## Messages (R198, R199) -/

/-- The keypad id of a message's first byte. -/
def keypadId (b0 : Byte) : Fin 8 := ⟨b0.toNat % 8, Nat.mod_lt _ (by decide)⟩

/-- The key code of a key message's second byte. -/
def keyCode (b1 : Byte) : Fin 64 := ⟨b1.toNat % 64, Nat.mod_lt _ (by decide)⟩

/-- A key message reaches the receive buffer (R199).
DEDUCED (log entry 48): with both entries empty it takes RX0. -/
def offerKey (b0 b1 : Byte) (s : State) : State :=
  let k := s.kpp
  let e : RxEntry := ⟨b0, b1, k.arrivals⟩
  if k.rx0.isNone then s.setKpp { k with rx0 := some e, arrivals := k.arrivals + 1 }
  else if k.rx1.isNone then s.setKpp { k with rx1 := some e, arrivals := k.arrivals + 1 }
  else
    (countIgnored (s.setKpp { k with overflow := true })).post (.keypadOverrun (keypadId b0) (keyCode b1)) .k

/-- A SELECT message sets the readback zone (R200). -/
def selectKeypad (b0 : Byte) (s : State) : State :=
  s.setKpp { s.kpp with readback := s.kpp.binding.get (keypadId b0) }

/-- A write transaction is judged by the bytes written (R198). -/
def busWrite (bytes : List Byte) (s : State) : State :=
  match bytes with
  | [] => s
  | [b0] => if b0.toNat / 8 = 16 then selectKeypad b0 s else countIgnored s
  | [b0, b1] => if b0.toNat / 8 = 0 then offerKey b0 b1 s else countIgnored s
  | _ :: _ :: _ :: _ => countIgnored s

/-- The state code of a readback (R198). -/
def readbackState : ZoneState → Nat
  | .standby => 0 | .switching => 1 | .acquiring => 2 | .playing => 3

/-- The four readback bytes of the readback zone (R198). -/
def readbackBytes (s : State) : List Byte :=
  let z := s.kpp.readback
  let r := s.zone z
  u8 ((if r.power = .on then 1 else 0) + 2 * readbackState r.state) ++ u8 r.source.id ++ u8 (r.volume + 160).toNat ++
    u8 (setBits [r.mute, r.sleep.isSome, s.sdd.ann.taken.has z, protection s])

/-- A read transaction of some bytes (R198). -/
def busRead (count : Nat) (s : State) : State := s.setKpp { s.kpp with readOut := fitBytes count (readbackBytes s) }

/-! ## Actions (R202) -/

/-- Whether a status refuses a request (R202). -/
def refuses : Status → Bool
  | .ok | .clamped => false
  | .busy | .noPermission | .badKind | .badZone | .badArgument | .notAvailable | .tunerInUse | .locked | .chainShort
  | .chainLong | .aborted | .noneFound => true

/-- Whether an answer refuses a request. -/
def Reply.refusal : Reply → Bool
  | .done st _ _ => refuses st
  | .later => false

/-- A zone request of the keypad, under K's permission for the zone: the state after it, and whether it was refused (R186, R202). -/
def keyZone (z : ZoneId) (f : State → State × Reply) (s : State) : State × Bool :=
  if zoneAllowed (s.perm .k) z then ((f s).1, (f s).2.refusal) else (s, true)

/-- The recall of the preset successor, under K's TUNER permission (R202). -/
def keyPreset (s : State) : State × Bool :=
  if (s.perm .k).tuner then
    match presetSuccessor s.tun with
    | none => (s, true)
    | some i => let (t, r) := presetRecall .k i.val s; (t, r.refusal)
  else (s, true)

/-- The requests of an action, in order (R202). -/
def keyRequests (a : KeyEntry) (z : ZoneId) (s : State) : State × Bool :=
  match a.action with
  | .none => (s, false)
  | .volUp =>
    let (t, x) := keyZone z (zoneVolume .k z (.relative a.arg)) s
    let (u, y) := keyZone z (zoneMute .k z .off) t
    (u, x || y)
  | .volDown => keyZone z (zoneVolume .k z (.relative (-(a.arg : Int)))) s
  | .muteToggle => keyZone z (zoneMute .k z .toggle) s
  | .powerToggle => keyZone z (fun t => powerReply z (powerToggle .k z t)) s
  | .sourceNext => keyZone z (fun t => zoneSource .k z (ringSuccessor (t.zone z)).id t) s
  | .presetNext => keyPreset s

/-- Whether a repeat of a key acts (R202). -/
def Action.repeats : Action → Bool
  | .volUp | .volDown => true
  | .none | .muteToggle | .powerToggle | .sourceNext | .presetNext => false

/-- The action of a key (R202). -/
def keyAction (pad : Fin 8) (code : Fin 64) (again : Bool) (s : State) : State :=
  let a := s.kpp.keymap.get code
  if again && !a.action.repeats then s
  else
    let (t, refused) := keyRequests a (s.kpp.binding.get pad) s
    if refused then countIgnored t else t

/-! ## Key records (R203) -/

def setKey (pad : Fin 8) (r : KeyRec) (s : State) : State := s.setKpp { s.kpp with keys := s.kpp.keys.set pad r }

/-- The time a key may be held, in ms (R203). -/
def holdLimit : Nat := 30000

/-- A press: the record takes the key and the moment, and the action follows (R203). -/
def pressKey (pad : Fin 8) (code : Fin 64) (again : Bool) (s : State) : State :=
  keyAction pad code again (setKey pad ⟨some code.val, s.now, false⟩ s)

/-- A repeat (R203). -/
def repeatKey (pad : Fin 8) (code : Fin 64) (s : State) : State :=
  let r := s.kpp.keys.get pad
  if r.current = some code.val then
    if s.now - r.pressed ≤ holdLimit then keyAction pad code true s
    else
      let t := countIgnored s
      if r.stuck then t else (setKey pad { r with stuck := true } t).post (.keyStuck pad code) .k
  else pressKey pad code true s

/-- A release clears the record (R203). -/
def releaseKey (pad : Fin 8) (s : State) : State := setKey pad .clear s

/-! ## Handling the receive buffer (R199) -/

/-- The oldest occupied entry, and the buffer without it. -/
def oldestEntry (k : Keypads) : Option (RxEntry × Keypads) :=
  match k.rx0, k.rx1 with
  | none, none => none
  | some a, none => some (a, { k with rx0 := none })
  | none, some b => some (b, { k with rx1 := none })
  | some a, some b =>
    if a.arrival ≤ b.arrival then some (a, { k with rx0 := none }) else some (b, { k with rx1 := none })

/-- The three kinds of key message. -/
inductive KeyKind where
  | press | again | release
  deriving DecidableEq, Repr

/-- The kind of a key message; both REPEAT and RELEASE set is a release (R198). -/
def RxEntry.kind (e : RxEntry) : KeyKind :=
  if e.b1.getLsbD 7 then .release else if e.b1.getLsbD 6 then .again else .press

/-- KPP handles the oldest entry if it is of a kind; it leaves the buffer once its action has been answered (R199). -/
def handleOldest (kind : KeyKind) (f : Fin 8 → Fin 64 → State → State) (s : State) : State :=
  match oldestEntry s.kpp with
  | none => s
  | some (e, _) =>
    if e.kind = kind then
      let t := f (keypadId e.b0) (keyCode e.b1) s
      match oldestEntry t.kpp with
      | some (_, k) => t.setKpp k
      | none => t
    else s

/-! ## KEYPAD_BIND, KEYMAP_LOAD, KEYPAD_QUERY -/

/-- KEYPAD_BIND (R200). -/
def keypadBind (keypad zone : Nat) (s : State) : State × Reply :=
  match keypadOf keypad, zoneOfCode zone with
  | some i, some z => (s.setKpp { s.kpp with binding := s.kpp.binding.set i z }, .plain .ok)
  | _, _ => (s, .plain .badArgument)

/-- The key map entry of an action code and argument, where they are valid (R201). -/
def keyEntryOf (e : KeyEntryArg) : Option KeyEntry :=
  match actionOfCode e.action with
  | none => none
  | some .volUp => if 1 ≤ e.arg ∧ e.arg ≤ 32 then some ⟨.volUp, e.arg⟩ else none
  | some .volDown => if 1 ≤ e.arg ∧ e.arg ≤ 32 then some ⟨.volDown, e.arg⟩ else none
  | some a => if e.arg ≤ 255 then some ⟨a, e.arg⟩ else none

/-- Entries written into the key map from a place on. -/
def writeKeys (t : Tab 64 KeyEntry) : Nat → List KeyEntry → Tab 64 KeyEntry
  | _, [] => t
  | i, e :: l => writeKeys (if h : i < 64 then t.set ⟨i, h⟩ e else t) (i + 1) l

/-- KEYMAP_LOAD (R201); fewer entries than the count calls for is CHAIN_SHORT (R189). -/
def keymapLoad (start count : Nat) (list : List KeyEntryArg) (s : State) : State × Reply :=
  if list.length < count then (s, .plain .chainShort)
  else
    match allSome keyEntryOf (list.take count) with
    | none => (s, .plain .badArgument)
    | some l =>
      if 1 ≤ count ∧ count ≤ 32 ∧ start + count ≤ 64 then
        (s.setKpp { s.kpp with keymap := writeKeys s.kpp.keymap start l }, .plain .ok)
      else (s, .plain .badArgument)

/-- The result of a KEYPAD_QUERY (R204), coded by R196. -/
def keypadResult (s : State) : List Byte :=
  let k := s.kpp
  flagByte k.overflow ++ u16 k.ignored ++ u8 k.readback.idx ++ k.binding.entries.flatMap (fun z => u8 (ZoneId.idx z).val) ++
    k.keys.entries.flatMap (fun r =>
      optBytes u8 r.current ++ u32 (if r.current.isSome then s.now - r.pressed else 0) ++ flagByte r.stuck)

/-- KEYPAD_QUERY (R204). -/
def keypadQuery (page : Nat) (s : State) : State × Reply :=
  let r := answerPage (keypadResult s) page
  (if r.refusal then s else s.setKpp { s.kpp with overflow := false }, r)

end Sys2Proof.Machine
end

