-- ==== Sys2Proof/Machine/SoftReset.lean ====
section
/-! DEFINITION. The soft reset, block by block (R27, R47, R68, R86, R111, R132, R143, R166, R181, R195, R204). -/
namespace Sys2Proof.Machine

/-- TUN ends its operation and stands in IDLE where it is (R166, R31). -/
def softTuner (s : State) : State :=
  let t := s.completeOpt s.tun.ticket .aborted []
  tunerLocked (t.setTun { t.tun.opEnded with
    state := .idle, monitor := if s.tun.state = .idle then s.tun.monitor else monitorMs })

/-- SDD is set as at a retune, its announcement record INACTIVE (R181). -/
def softStation (s : State) : State := (retuneReported s).setAnn .inactive

/-- One channel in a soft reset: IDLE unless LATCHED (R111). -/
def ChanRec.softReset (r : ChanRec) : ChanRec :=
  if r.state = .latched then { r with changing := false }
  else { r with changing := false, state := .idle, cause := none, retryWait := none }

/-- One package in a soft reset: OFF unless LATCHED (R111). -/
def PkgRec.softReset (r : PkgRec) : PkgRec :=
  if r.power = .latched then r else { r with power := .off, timer := none, misses := 0 }

/-- ACC in a soft reset (R107, R111). -/
def softAmp (s : State) : State :=
  let t := match s.acc.reassign with
    | none => s
    | some k => s.complete k.ticket .aborted 0 []
  let u := dropCheck .aborted t
  { u with acc := { u.acc with
      channels := u.acc.channels.map ChanRec.softReset
      packages := u.acc.packages.map PkgRec.softReset
      reassign := none } }

/-- LVU in a soft reset: every output snapped, every clip count and flag cleared (R76, R86). -/
def softLevels (s : State) : State := s.eachOut (fun o t => clearClips o (snap o t))

/-- One zone in a soft reset: STANDBY with origin S (R27). -/
def softZone (z : ZoneId) (s : State) : State :=
  if (s.zone z).state = .standby then (s.updZone z (fun r => { r.idle with power := .standby, engine := none })).stamp z .s
  else enterStandby z .s (s.updZone z (fun r => { r with power := .standby }))

/-- ZC in a soft reset: the wait lists emptied, so that nothing is granted, and every zone in STANDBY (R27, R68). -/
def softZones (s : State) : State :=
  let t : State := { s with zc := { s.zc with convWait := [] }, de := { s.de with wait := [] } }
  t.eachZone softZone

/-- One source in a soft reset: the clocked sources halted, the analog sources without a pair, TUNER LOCKED with the tuner IDLE, nothing counted, and the trim kept (R47). -/
def SourceRec.softReset (x : Src) (r : SourceRec) : SourceRec :=
  let t := { r with shortFrames := 0, run := ⟨0, none⟩, listeners := .empty, engine := none, pair := none }
  match x.kind with
  | .digital | .multi | .network => t.halt
  | .analog => t.unlockPcm
  | .tuner => t.lockPcm

/-- SIU in a soft reset (R47). -/
def softSources (s : State) : State := Src.all.foldl (fun t x => t.updSrc x (SourceRec.softReset x)) s

/-- One engine in a soft reset: FREE, with nothing counted (R68). -/
def EngineRec.softReset (r : EngineRec) : EngineRec := { r.freed with frameErrors := 0, errorRun := 0, lastGood := none }

/-- The engines in a soft reset (R68). -/
def softEngines (s : State) : State := { s with de := { s.de with engines := s.de.engines.map EngineRec.softReset } }

/-- KPP in a soft reset (R204). -/
def softKeypads (s : State) : State :=
  s.setKpp { s.kpp with rx0 := none, rx1 := none, keys := .replicate 8 .clear }

/-- Every block performs its soft reset (R195). -/
def softBlocks (s : State) : State :=
  softKeypads (softEngines (softSources (softZones (softLevels (softAmp (softStation (softTuner s)))))))

end Sys2Proof.Machine
end

