-- ==== Sys2Proof/Machine/Requests.lean ====
section
/-! DEFINITION. The request catalogue, and what each kind of request does once LNK has taken it (R186, R190, R192, R195, section 10.7).

A `Request` is a kind's code, its data bytes and its owner's work.
The checks of R186 come before the work and are made in one place, `takeRequest`.
-/
namespace Sys2Proof.Machine

/-! ## The catalogue -/

/-- The permission column of the catalogue. -/
inductive Need where
  | zone | sOnly | zoneMain | tuner | protectClear | anyLink
  deriving DecidableEq, Repr

/-- A line of the catalogue: the permission, whether the kind is a zone request, and the most slots it may occupy. -/
structure Line where
  need : Need
  zoneRequest : Bool
  chain : Nat
  deriving DecidableEq, Repr

/-- The line of a kind, by its code (R197); none for a code that names no request. -/
def catalogue (kind : Byte) : Option Line :=
  match kind.toNat with
  | 0x01 | 0x02 | 0x03 | 0x04 | 0x05 | 0x06 | 0x07 => some ⟨.zone, true, 1⟩
  | 0x08 => some ⟨.sOnly, true, 1⟩
  | 0x09 => some ⟨.sOnly, true, 2⟩
  | 0x0A => some ⟨.sOnly, false, 1⟩
  | 0x0B => some ⟨.anyLink, false, 1⟩
  | 0x0C | 0x0D => some ⟨.zoneMain, false, 1⟩
  | 0x0E | 0x0F => some ⟨.sOnly, false, 1⟩
  | 0x10 => some ⟨.anyLink, false, 1⟩
  | 0x11 => some ⟨.sOnly, false, 1⟩
  | 0x12 => some ⟨.anyLink, false, 1⟩
  | 0x13 => some ⟨.sOnly, false, 3⟩
  | 0x14 => some ⟨.sOnly, false, 1⟩
  | 0x15 => some ⟨.anyLink, false, 1⟩
  | 0x16 => some ⟨.sOnly, false, 2⟩
  | 0x17 | 0x18 => some ⟨.sOnly, false, 1⟩
  | 0x19 => some ⟨.protectClear, false, 1⟩
  | 0x1A => some ⟨.anyLink, false, 1⟩
  | 0x1B => some ⟨.sOnly, false, 2⟩
  | 0x1C => some ⟨.anyLink, false, 1⟩
  | 0x1D | 0x1E | 0x1F | 0x20 | 0x21 | 0x22 | 0x23 | 0x24 | 0x25 => some ⟨.tuner, false, 1⟩
  | 0x26 | 0x27 => some ⟨.sOnly, false, 1⟩
  | 0x28 => some ⟨.sOnly, false, 8⟩
  | 0x29 => some ⟨.tuner, false, 1⟩
  | 0x2A => some ⟨.anyLink, false, 1⟩
  | 0x2B => some ⟨.sOnly, false, 1⟩
  | 0x2C => some ⟨.anyLink, false, 1⟩
  | 0x2D | 0x2E => some ⟨.sOnly, false, 1⟩
  | 0x2F => some ⟨.sOnly, false, 8⟩
  | 0x30 => some ⟨.anyLink, false, 1⟩
  | _ => none

/-! ## The checks of a take (R186) -/

/-- Whether a permission set holds what a kind needs, for a zone request on the zone named (R186, check 4). -/
def allowed (p : PermSet) (need : Need) (z : Option ZoneId) : Bool :=
  match need with
  | .anyLink => true
  | .sOnly => p.config
  | .zoneMain => p.zoneMain
  | .tuner => p.tuner
  | .protectClear => p.protectClear
  | .zone => match z with
    | none => false
    | some y => zoneAllowed p y

/-- The status of the first of checks 2 to 4 that fails, if one does (R186). -/
def checkFails (s : State) (h : ReqHead) (line : Line) : Option Status :=
  let z := zoneOfCode h.target.toNat
  if line.need = .sOnly ∧ h.link = .n then some .noPermission
  else if line.zoneRequest = true ∧ z = none then some .badZone
  else if allowed (s.perm h.link.port) line.need z then none
  else some .noPermission

/-! ## Requests -/

/-- A request: the code of its kind, its data bytes, and its owner's work at the take. -/
structure Request where
  kind : Byte
  data : List Byte
  run : Ticket → State → State × Reply

/-- Work done for the zone a zone field names (R14). -/
def onZone (h : ReqHead) (f : ZoneId → State → State × Reply) (s : State) : State × Reply :=
  match zoneOfCode h.target.toNat with
  | none => (s, .plain .badZone)
  | some z => f z s

/-- A short request. -/
def shortReq (kind : Byte) (data : List Byte) (f : State → State × Reply) : Request := ⟨kind, data, fun _ s => f s⟩

/-- A zone request. -/
def zoneReq (kind : Byte) (data : List Byte) (h : ReqHead) (f : Origin → ZoneId → State → State × Reply) : Request :=
  shortReq kind data (onZone h (f h.link.origin))

/-! ### Zones (chapter 1) -/

def reqZonePowerOn (h : ReqHead) : Request := zoneReq 0x01 (u8 0) h (fun o z s => powerReply z (powerOn o z s))
def reqZonePowerStandby (h : ReqHead) : Request := zoneReq 0x01 (u8 1) h (fun o z s => powerReply z (powerStandby o z s))
def reqZonePowerToggle (h : ReqHead) : Request := zoneReq 0x01 (u8 2) h (fun o z s => powerReply z (powerToggle o z s))
def reqZoneSource (h : ReqHead) (id : Nat) : Request := zoneReq 0x02 (u8 id) h (fun o z s => zoneSource o z id s)
def reqZoneVolume (h : ReqHead) (v : VolumeArg) : Request := zoneReq 0x03 (volumeData v) h (fun o z s => zoneVolume o z v s)
def reqZoneMute (h : ReqHead) (m : MuteArg) : Request := zoneReq 0x04 (muteData m) h (fun o z s => zoneMute o z m s)
def reqZoneSleep (h : ReqHead) (n : Nat) : Request := zoneReq 0x05 (u8 n) h (fun o z s => zoneSleep o z n s)
def reqZoneAnnounce (h : ReqHead) (f : Bool) (v : Int) : Request := zoneReq 0x06 (flagByte f ++ s16 v) h (fun o z s => zoneAnnounce o z f v s)
def reqZoneQuery (h : ReqHead) (page : Nat) : Request := zoneReq 0x07 (u8 page) h (fun _ z s => zoneQuery z page s)
def reqZoneLimits (h : ReqHead) (c : Int) (r : Nat) (f : Bool) : Request :=
  zoneReq 0x08 (s8 c ++ u8 r ++ flagByte f) h (fun o z s => zoneLimits o z c r f s)
def reqZoneSourceRing (h : ReqHead) (ids : List Nat) : Request := zoneReq 0x09 (listData u8 ids) h (fun o z s => zoneSourceRing o z ids s)

/-! ### Sources, engines, mapping, levels (chapters 2 to 4) -/

def reqSourceTrim (h : ReqHead) (v : Int) : Request := shortReq 0x0A (s8 v) (sourceTrim h.target.toNat v)
def reqSourceQuery (h : ReqHead) (page : Nat) : Request := shortReq 0x0B (u8 page) (sourceQuery h.target.toNat page)
def reqMainMode (h : ReqHead) (m : Nat) : Request := shortReq 0x0C (u8 m) (mainMode h.link.origin m)
def reqDialogue (h : ReqHead) (v : Int) : Request := shortReq 0x0D (s8 v) (dialogue h.link.origin v)
def reqBassConfig (a : BassArgs) : Request := shortReq 0x0E (bassData a) (bassConfig a)
def reqDownmixConfig (a : DownmixArgs) : Request := shortReq 0x0F (downmixData a) (downmixConfig a)
def reqEngineQuery (h : ReqHead) (page : Nat) : Request := shortReq 0x10 (u8 page) (engineQuery h.target.toNat page)
def reqChannelTrim (h : ReqHead) (v : Int) : Request := shortReq 0x11 (s8 v) (channelTrim h.target.toNat v)
def reqLevelQuery (h : ReqHead) (page : Nat) : Request := shortReq 0x12 (u8 page) (levelQuery h.target.toNat page)

/-! ### Amplifier channels, monitor, fans (chapters 5 to 7) -/

def reqAmpAssign (l : List AssignEntry) : Request := ⟨0x13, listData assignData l, ampAssign l⟩
def reqLineCheck (h : ReqHead) : Request := ⟨0x14, [], lineCheck h.target.toNat⟩
def reqAmpQuery (h : ReqHead) (page : Nat) : Request := shortReq 0x15 (u8 page) (ampQuery h.target.toNat page)
def reqProtLimits (a : Limits) : Request := shortReq 0x16 (limitsData a) (protLimits a)
def reqClipGuard (h : ReqHead) (n : Nat) : Request := shortReq 0x17 (u16 n) (onZone h (fun z s => clipGuard z n s))
def reqProtLock : Request := shortReq 0x18 [] protLock
def reqProtClear (a : ClearArgs) : Request := shortReq 0x19 (clearData a) (protClear a)
def reqProtQuery (page : Nat) : Request := shortReq 0x1A (u8 page) (protQuery page)
def reqFanCurve (h : ReqHead) (a : FanSettings) : Request := shortReq 0x1B (fanData a) (fanCurve h.target.toNat a)
def reqFanQuery (h : ReqHead) (page : Nat) : Request := shortReq 0x1C (u8 page) (fanQuery h.target.toNat page)

/-! ### Tuner and station data (chapters 8 and 9) -/

def reqTunerTune (h : ReqHead) (b c : Nat) : Request := ⟨0x1D, u8 b ++ u16 c, tunerTune h.link.origin b c⟩
def reqTunerSeek (h : ReqHead) (d : Nat) : Request := ⟨0x1E, u8 d, tunerSeek h.link.origin d⟩
def reqTunerScan (h : ReqHead) (b f l : Nat) (force : Bool) : Request := ⟨0x1F, u8 b ++ u16 f ++ u16 l ++ flagByte force, tunerScan h.link.origin b f l force⟩
def reqTunerStop (h : ReqHead) : Request := shortReq 0x20 [] (tunerStop h.link.origin)
def reqPresetStore (h : ReqHead) : Request := shortReq 0x21 [] (presetStore h.target.toNat)
def reqPresetRecall (h : ReqHead) : Request := shortReq 0x22 [] (presetRecall h.link.origin h.target.toNat)
def reqPresetRead (h : ReqHead) (page : Nat) : Request := shortReq 0x23 (u8 page) (presetRead h.target.toNat page)
def reqStationRead (page index : Nat) : Request := shortReq 0x24 (u8 page ++ u8 index) (stationRead page index)
def reqTunerQuery (page : Nat) : Request := shortReq 0x25 (u8 page) (tunerQuery page)
def reqTunerRegion (step raster : Nat) : Request := shortReq 0x26 (u8 step ++ u8 raster) (tunerRegion step raster)
def reqTunerThresholds (m a : Nat) : Request := shortReq 0x27 (u8 m ++ u8 a) (tunerThresholds m a)
def reqPresetUpload (l : List UploadEntry) : Request := shortReq 0x28 (uploadData l) (presetUpload l)
def reqAnnounceFilter (home : Option (BitVec 16)) (mask : BitVec 32) (all : Bool) : Request :=
  shortReq 0x29 (filterData home mask all) (announceFilter home mask all)
def reqStationDataQuery (page : Nat) : Request := shortReq 0x2A (u8 page) (stationDataQuery page)

/-! ### Links and keypads (chapters 10 and 11) -/

/-- LINK_PERMIT (R190). -/
def linkPermit (who : Nat) (p : PermSet) (s : State) : State × Reply :=
  match permitPort who with
  | none => (s, .plain .badArgument)
  | some port =>
    if p.config || (port == .k && p.protectClear) then (s, .plain .badArgument)
    else ({ s with lnk := { s.lnk with perms := s.lnk.perms.set port.idx p } }, .plain .ok)

/-- NOTICE_MASK (R192). -/
def noticeMask (l : Link) (m : ClassSet) (attention : Bool) (s : State) : State × Reply :=
  (s.updLink l (fun r => { r with mask := m, attention := attention }), .plain .ok)

/-- SOFT_RESET (R195): taking stops and every block performs its soft reset. -/
def softReset (k : Ticket) (s : State) : State × Reply :=
  (softBlocks { s with lnk := { s.lnk with resetting := some k } }, .later)

def reqLinkPermit (who : Nat) (p : PermSet) : Request := shortReq 0x2B (u8 who ++ u8 p.bits) (linkPermit who p)
def reqNoticeMask (h : ReqHead) (m : ClassSet) (a : Bool) : Request := shortReq 0x2C (u8 m.bits ++ flagByte a) (noticeMask h.link m a)
def reqSoftReset : Request := ⟨0x2D, [], softReset⟩
def reqKeypadBind (i z : Nat) : Request := shortReq 0x2E (u8 i ++ u8 z) (keypadBind i z)
def reqKeymapLoad (i n : Nat) (l : List KeyEntryArg) : Request := shortReq 0x2F (keymapData i n l) (keymapLoad i n l)
def reqKeypadQuery (page : Nat) : Request := shortReq 0x30 (u8 page) (keypadQuery page)

end Sys2Proof.Machine
end

