-- ==== Sys2Proof/Machine/SlotDecode.lean ====
section
/-! DEFINITION. The request a taken slot or chain spells: the data bytes read by R197, and the head by section 10.8.

A request whose count fields call for more data than its slots carry is CHAIN_SHORT (R189).
DEDUCED (log entry 14): the data are read front to back and the first fault met decides, so a byte with no meaning before the end of data that run out is BAD_ARGUMENT.
A flag, selector or presence byte with no meaning is BAD_ARGUMENT; every other value is left to the owner's checks.
-/
namespace Sys2Proof.Machine

/-- A reader of data bytes: it takes what it needs from the front, or tells the status the request completes with. -/
abbrev Reader (α : Type) := StateT (List Byte) (Except Status) α

/-- The next byte. -/
def rdByte : Reader Byte := do
  match ← get with
  | [] => throw .chainShort
  | b :: l => set l; return b

def rd8 : Reader Nat := do return (← rdByte).toNat

def rd16 : Reader Nat := do return (← rd8) * 256 + (← rd8)

def rdS8 : Reader Int := do return (← rdByte).toInt

def rdS16 : Reader Int := do return (BitVec.ofNat 16 (← rd16)).toInt

/-- A flag: 0 for false, 1 for true (R197). -/
def rdFlag : Reader Bool := do
  match ← rd8 with
  | 0 => return false
  | 1 => return true
  | _ => throw .badArgument

/-- As many values as a count says (R197). -/
def rdMany {α : Type} (f : Reader α) : Nat → Reader (List α)
  | 0 => return []
  | n + 1 => do return (← f) :: (← rdMany f n)

/-- A list behind its count byte (R197). -/
def rdList {α : Type} (f : Reader α) : Reader (List α) := do rdMany f (← rd8)

/-- An optional value behind its presence byte (R197). -/
def rdOpt {α : Type} (f : Reader α) : Reader (Option α) := do
  if ← rdFlag then return some (← f) else return none

/-- The members of a set, one bit each, bit 0 first (R197).
DEDUCED (log entry 15): a set bit that stands for no member is ignored, here and in every set below. -/
def bitSet (n i : Nat) : Bool := n / 2 ^ i % 2 == 1

/-- A set of packages; bits 4 to 7 are ignored (log entry 15). -/
def pkgSetOf (n : Nat) : PkgSet := ⟨bitSet n 0, bitSet n 1, bitSet n 2, bitSet n 3⟩

/-- A set of flags; bits 20 to 23 are ignored (log entry 15). -/
def flagSetOf (n : Nat) : FlagSet :=
  ⟨pkgSetOf n, pkgSetOf (n / 16), pkgSetOf (n / 256), pkgSetOf (n / 4096), bitSet n 16, bitSet n 17, bitSet n 18, bitSet n 19⟩

/-- A set of permissions; bits 6 and 7 are ignored (log entry 15). -/
def permSetOf (n : Nat) : PermSet := ⟨bitSet n 0, bitSet n 1, bitSet n 2, bitSet n 3, bitSet n 4, bitSet n 5⟩

/-- A set of notice classes; bits 5 to 7 are ignored (log entry 15). -/
def classSetOf (n : Nat) : ClassSet := ⟨bitSet n 0, bitSet n 1, bitSet n 2, bitSet n 3, bitSet n 4⟩

/-- A set of sensors; bits 5 to 7 are ignored (log entry 15). -/
def sensorSetOf (n : Nat) : SensorSet := ⟨bitSet n 0, bitSet n 1, bitSet n 2, bitSet n 3, bitSet n 4⟩

/-! ## Arguments -/

def rdPower (h : ReqHead) : Reader Instr := do
  match ← rd8 with
  | 0 => return .zonePowerOn h
  | 1 => return .zonePowerStandby h
  | 2 => return .zonePowerToggle h
  | _ => throw .badArgument

/-- A volume behind its selector byte (R15, R197).
DEDUCED (log entry 16): the relative step, which R15 gives no range, takes two bytes like the absolute volume. -/
def rdVolume : Reader VolumeArg := do
  match ← rd8 with
  | 0 => return .absolute (← rdS16)
  | 1 => return .relative (← rdS16)
  | _ => throw .badArgument

def rdMute : Reader MuteArg := do
  match ← rd8 with
  | 0 => return .on
  | 1 => return .off
  | 2 => return .toggle
  | _ => throw .badArgument

def rdBass : Reader BassArgs := do
  return { front := ← rd8, centre := ← rd8, surround := ← rd8, back := ← rd8, height := ← rd8, crossover := ← rd8, sub := ← rdFlag }

def rdDownmix : Reader DownmixArgs := do
  return { c := ← rd8, s := ← rd8, b := ← rd8, h := ← rd8, pad := ← rdFlag }

/-- An AMP_ASSIGN entry: the channel, the zone with 0xFF for unassigned, the role (R101, R197).
DEDUCED (log entry 16): the role byte of an unassigned entry may hold any value, and nothing is made of it. -/
def rdAssign : Reader AssignEntry := do
  let c ← rd8
  let z ← rd8
  let r ← rd8
  return ⟨c, if z = 255 then none else some (z, r)⟩

/-- The limits of a PROT_LIMITS (R116, R197).
DEDUCED (log entry 16): the two averaging counts are carried as their numbers and not as codes from 0. -/
def rdLimits : Reader Limits := do
  return { pkgWarn := ← rd16, pkgTrip := ← rd16, pkgHyst := ← rd8, hsWarn := ← rd16, hsTrip := ← rd16, hsHyst := ← rd8,
           railLow := ← rd16, railHigh := ← rd16, railHyst := ← rd8, tempN := ← rd8, railN := ← rd8 }

/-- The three sets of a PROT_CLEAR (R128, R197).
DEDUCED (log entry 15): bits that stand for no flag, channel or package are ignored. -/
def rdClear : Reader ClearArgs := do
  let f := (← rd8) * 65536 + (← rd16)
  let c ← rd16
  let p ← rd8
  return ⟨flagSetOf f, ChanId.all.filter (fun x => bitSet c x.idx.val), pkgSetOf p⟩

/-- The settings of a FAN_CURVE (R140, R197).
DEDUCED (log entry 16): E, guard and update period are carried as their numbers, in one, one and two bytes.
DEDUCED (log entry 14): a flag byte with no meaning in the first slot is met before data that run out behind it. -/
def rdFan : Reader FanSettings := do
  return { sensors := sensorSetOf (← rd8), t1 := ← rd16, d1 := ← rd8, t2 := ← rd16, d2 := ← rd8, t3 := ← rd16,
           stopAllowed := ← rdFlag, rampRate := ← rd8, snapToZero := ← rdFlag, spinUpTime := ← rd16,
           spinUpReduction := ← rdFlag, edges := ← rd8, guard := ← rd8, ignoreEdges := ← rdFlag,
           slowMarking := ← rdFlag, period := ← rd16, tachLimit := ← rd16 }

/-- A home code or "none", behind its selector byte (R175, R197). -/
def rdHome : Reader (Option (BitVec 16)) := do
  match ← rd8 with
  | 0 => return some (BitVec.ofNat 16 (← rd16))
  | 1 => return none
  | _ => throw .badArgument

def rdMask : Reader (BitVec 32) := do
  let hi ← rd16
  let lo ← rd16
  return BitVec.ofNat 32 (hi * 65536 + lo)

/-- A PRESET_UPLOAD entry: an index, then empty or a band, a frequency and an optional name (R159, R197).
DEDUCED (log entry 14): a name is a presence byte, a count byte and that many characters. -/
def rdUpload : Reader UploadEntry := do
  let i ← rd8
  match ← rd8 with
  | 0 => return ⟨i, none⟩
  | 1 =>
    let b ← rd8
    let f ← rd16
    let n ← rdOpt (rdList rdByte)
    return ⟨i, some (b, f, n)⟩
  | _ => throw .badArgument

def rdKeyEntry : Reader KeyEntryArg := do return ⟨← rd8, ← rd8⟩

/-- What a reader makes of some data bytes; bytes beyond those it takes are not read (R197). -/
def readAll {α : Type} (f : Reader α) (data : List Byte) : Except Status α :=
  match f.run data with
  | .ok (a, _) => .ok a
  | .error e => .error e

/-- The entries of a PRESET_UPLOAD, one from each slot (R159, R197). -/
def readUploads : List (List Byte) → Except Status (List UploadEntry)
  | [] => .ok []
  | d :: l =>
    match readAll rdUpload (d.take 11), readUploads l with
    | .ok e, .ok m => .ok (e :: m)
    | .error e, _ => .error e
    | _, .error e => .error e

/-! ## Kinds (R197) -/

/-- The reader of a kind's arguments; PRESET_UPLOAD, which reads slot by slot, apart.
DEDUCED (log entry 16): ZONE_SLEEP carries its minutes in one byte, since R21 gives their range no upper end.
DEDUCED (log entry 16): TUNER_REGION carries the region step and the AM spacing in kHz as their numbers. -/
def rdKind (kind : Nat) (h : ReqHead) : Reader Instr := do
  match kind with
  | 0x01 => rdPower h
  | 0x02 => return .zoneSource h (← rd8)
  | 0x03 => return .zoneVolume h (← rdVolume)
  | 0x04 => return .zoneMute h (← rdMute)
  | 0x05 => return .zoneSleep h (← rd8)
  | 0x06 => return .zoneAnnounce h (← rdFlag) (← rdS16)
  | 0x07 => return .zoneQuery h (← rd8)
  | 0x08 => return .zoneLimits h (← rdS8) (← rd8) (← rdFlag)
  | 0x09 => return .zoneSourceRing h (← rdList rd8)
  | 0x0A => return .sourceTrim h (← rdS8)
  | 0x0B => return .sourceQuery h (← rd8)
  | 0x0C => return .mainMode h (← rd8)
  | 0x0D => return .dialogue h (← rd8)
  | 0x0E => return .bassConfig h (← rdBass)
  | 0x0F => return .downmixConfig h (← rdDownmix)
  | 0x10 => return .engineQuery h (← rd8)
  | 0x11 => return .channelTrim h (← rdS8)
  | 0x12 => return .levelQuery h (← rd8)
  | 0x13 => return .ampAssign h (← rdList rdAssign)
  | 0x14 => return .lineCheck h
  | 0x15 => return .ampQuery h (← rd8)
  | 0x16 => return .protLimits h (← rdLimits)
  | 0x17 => return .clipGuard h (← rd16)
  | 0x18 => return .protLock h
  | 0x19 => return .protClear h (← rdClear)
  | 0x1A => return .protQuery h (← rd8)
  | 0x1B => return .fanCurve h (← rdFan)
  | 0x1C => return .fanQuery h (← rd8)
  | 0x1D => return .tunerTune h (← rd8) (← rd16)
  | 0x1E => return .tunerSeek h (← rd8)
  | 0x1F => return .tunerScan h (← rd8) (← rd16) (← rd16) (← rdFlag)
  | 0x20 => return .tunerStop h
  | 0x21 => return .presetStore h
  | 0x22 => return .presetRecall h
  | 0x23 => return .presetRead h (← rd8)
  | 0x24 => return .stationRead h (← rd8) (← rd8)
  | 0x25 => return .tunerQuery h (← rd8)
  | 0x26 => return .tunerRegion h (← rd8) (← rd8)
  | 0x27 => return .tunerThresholds h (← rd8) (← rd8)
  | 0x29 => return .announceFilter h (← rdHome) (← rdMask) (← rdFlag)
  | 0x2A => return .stationDataQuery h (← rd8)
  | 0x2B => return .linkPermit h (← rd8) (permSetOf (← rd8))
  | 0x2C => return .noticeMask h (classSetOf (← rd8)) (← rdFlag)
  | 0x2D => return .softReset h
  | 0x2E => return .keypadBind h (← rd8) (← rd8)
  | 0x2F => do
    let start ← rd8
    let count ← rd8
    return .keymapLoad h start count (← rdMany rdKeyEntry count)
  | 0x30 => return .keypadQuery h (← rd8)
  | _ => throw .badKind

/-- The request that a kind, a head and the data of its slots spell. -/
def decodeSlots (kind : Byte) (h : ReqHead) (data : List (List Byte)) : Except Status Instr :=
  if kind = 0x28 then
    match readUploads data with
    | .ok l => .ok (.presetUpload h l)
    | .error e => .error e
  else readAll (rdKind kind.toNat h) data.flatten

end Sys2Proof.Machine
end

