-- ==== Sys2Proof/Machine/Ring.lean ====
section
/-! DEFINITION. The request rings: takes, chains and the service of a ring (R185 to R189), and the arrival of a request named as a command. -/
namespace Sys2Proof.Machine

/-! ## The request of a command -/

/-- The head and the request of a command that is a request of the catalogue; none for frames and events. -/
def requestOf : Instr → Option (ReqHead × Request)
  | .zonePowerOn h => some (h, reqZonePowerOn h)
  | .zonePowerStandby h => some (h, reqZonePowerStandby h)
  | .zonePowerToggle h => some (h, reqZonePowerToggle h)
  | .zoneSource h id => some (h, reqZoneSource h id)
  | .zoneVolume h v => some (h, reqZoneVolume h v)
  | .zoneMute h m => some (h, reqZoneMute h m)
  | .zoneSleep h n => some (h, reqZoneSleep h n)
  | .zoneAnnounce h f v => some (h, reqZoneAnnounce h f v)
  | .zoneQuery h p => some (h, reqZoneQuery h p)
  | .zoneLimits h c r f => some (h, reqZoneLimits h c r f)
  | .zoneSourceRing h l => some (h, reqZoneSourceRing h l)
  | .sourceTrim h v => some (h, reqSourceTrim h v)
  | .sourceQuery h p => some (h, reqSourceQuery h p)
  | .mainMode h m => some (h, reqMainMode h m)
  | .dialogue h v => some (h, reqDialogue h v)
  | .bassConfig h a => some (h, reqBassConfig a)
  | .downmixConfig h a => some (h, reqDownmixConfig a)
  | .engineQuery h p => some (h, reqEngineQuery h p)
  | .channelTrim h v => some (h, reqChannelTrim h v)
  | .levelQuery h p => some (h, reqLevelQuery h p)
  | .ampAssign h l => some (h, reqAmpAssign l)
  | .lineCheck h => some (h, reqLineCheck h)
  | .ampQuery h p => some (h, reqAmpQuery h p)
  | .protLimits h a => some (h, reqProtLimits a)
  | .clipGuard h n => some (h, reqClipGuard h n)
  | .protLock h => some (h, reqProtLock)
  | .protClear h a => some (h, reqProtClear a)
  | .protQuery h p => some (h, reqProtQuery p)
  | .fanCurve h a => some (h, reqFanCurve h a)
  | .fanQuery h p => some (h, reqFanQuery h p)
  | .tunerTune h b c => some (h, reqTunerTune h b c)
  | .tunerSeek h d => some (h, reqTunerSeek h d)
  | .tunerScan h b f l force => some (h, reqTunerScan h b f l force)
  | .tunerStop h => some (h, reqTunerStop h)
  | .presetStore h => some (h, reqPresetStore h)
  | .presetRecall h => some (h, reqPresetRecall h)
  | .presetRead h p => some (h, reqPresetRead h p)
  | .presetUpload h l => some (h, reqPresetUpload l)
  | .stationRead h p i => some (h, reqStationRead p i)
  | .tunerQuery h p => some (h, reqTunerQuery p)
  | .tunerRegion h st r => some (h, reqTunerRegion st r)
  | .tunerThresholds h m a => some (h, reqTunerThresholds m a)
  | .announceFilter h c m a => some (h, reqAnnounceFilter c m a)
  | .stationDataQuery h p => some (h, reqStationDataQuery p)
  | .linkPermit h w p => some (h, reqLinkPermit w p)
  | .noticeMask h m a => some (h, reqNoticeMask h m a)
  | .softReset h => some (h, reqSoftReset)
  | .keypadBind h i z => some (h, reqKeypadBind i z)
  | .keymapLoad h i n l => some (h, reqKeymapLoad i n l)
  | .keypadQuery h p => some (h, reqKeypadQuery p)
  | .powerOnReset | .softResetDone | .unknownRequestKind .. | .continuation .. | .writeSlot .. | .readSlot ..
  | .readNotices .. | .readLink .. | .linkReset .. | .badFrame .. | .frameTruncated .. | .frameStall ..
  | .keyMessage .. | .select .. | .malformedKeypadWrite .. | .readbackRead .. | .keyPress | .keyRepeat | .keyRelease
  | .sleepMinute .. | .sleepExpiry .. | .rampStep | .drainEnd .. | .channelFloorIdle .. | .reassignmentSwap
  | .lockAchieved .. | .attemptWindowExpiry .. | .backoffExpiry .. | .lockLost .. | .activityDetectorArm ..
  | .activity .. | .syncTimerExpiry .. | .laneTimerExpiry | .codedFrame .. | .loadEnd .. | .clipWindowEnd ..
  | .samplingTimer .. | .readingUpdate .. | .derateStep .. | .readyAsserted .. | .readyWindowExpiry ..
  | .packageRetryExpiry .. | .readyLost .. | .overcurrent .. | .channelRetryExpiry .. | .overcurrentFreeRun ..
  | .lineCheckCrossing .. | .lineCheckCounterFull | .dutyStep | .spinUpExpiry .. | .tachUpdate .. | .tachEdge ..
  | .guardEnd .. | .tachCountLimit .. | .dwellEnd .. | .qualityMonitor .. | .weakSignalExpiry | .subcarrierWord ..
  | .announceHoldExpiry | .samplePeriod .. | .laneActivity .. => none

/-! ## Slots of a ring -/

/-- The slot some places after another, round the ring. -/
def slotAfter (i : Fin 8) (k : Nat) : Fin 8 := ⟨(i.val + k) % 8, Nat.mod_lt _ (by decide)⟩

/-- The slots of a request that begins at a slot. -/
def slotsFrom (i : Fin 8) (n : Nat) : List (Fin 8) := (List.range n).map (slotAfter i)

/-- Whether a slot is owned by the link (R182). -/
def linkOwned (r : LinkRec) (i : Fin 8) : Bool := (r.slots.get i).phase == .free || (r.slots.get i).phase == .done

/-- Slots take a phase, their records kept. -/
def setPhases (ph : Phase) (l : List (Fin 8)) (r : LinkRec) : LinkRec :=
  l.foldl (fun q i => { q with slots := q.slots.set i { q.slots.get i with phase := ph } }) r

/-- The slot a request starts in: the take pointer's. -/
def ticketAt (r : LinkRec) (h : ReqHead) (kind : Byte) : Ticket :=
  ⟨h.link, r.take, h.slots, r.gen, kind, h.tag, h.target, h.notify⟩

/-! ## A take (R186, R187) -/

/-- The slots of a take become IN_FLIGHT and the pointer moves past them (R186, R188). -/
def claim (h : ReqHead) (s : State) : State :=
  s.updLink h.link (fun r => { setPhases .inFlight (slotsFrom r.take h.slots) r with take := slotAfter r.take h.slots })

/-- A request's slots complete without its owner having been asked (R186, R188, R189). -/
def refuseTake (h : ReqHead) (kind : Byte) (st rest : Status) (s : State) : State :=
  let k := ticketAt (s.link h.link) h kind
  (claim h s).updLink h.link (fun r => r.completeAs k st rest 0 [] h.link.origin)

/-- LNK takes a request: the checks of R186, then the owner's work and the completion of a request it has done with (R186, R187). -/
def takeRequest (h : ReqHead) (q : Request) (s : State) : State :=
  match catalogue q.kind with
  | none => refuseTake h q.kind .badKind .ok s
  | some line =>
    match checkFails s h line with
    | some st => refuseTake h q.kind st .ok s
    | none =>
      let k := ticketAt (s.link h.link) h q.kind
      match q.run k (claim h s) with
      | (t, .done st page data) => t.complete k st page data
      | (t, .later) => t

/-! ## The service of a ring (R186, R188, R189) -/

/-- The record of the slot some places after the take pointer. -/
def recordAt (r : LinkRec) (k : Nat) : List Byte := (r.slots.get (slotAfter r.take k)).record

/-- The head that a first slot's record gives (section 10.8). -/
def headOf (l : Link) (rcd : List Byte) (slots : Nat) : ReqHead :=
  ⟨l, rcd.getD 2 0, rcd.getD 3 0, (rcd.getD 1 0).getLsbD 1, slots⟩

/-- The status of data that spell no request: CHAIN_SHORT where they ran out (R189); where a byte has no meaning BAD_ARGUMENT, but for a FAN_CURVE, the one kind with flag bytes that the protection lock closes, LOCKED while it is set (R129, R140).
DEDUCED (log entry 14): whichever of the two the reader meets first decides. -/
def spellStatus (s : State) (kind : Byte) : Status → Status
  | .badArgument => if s.tlm.lock && kind == 0x1B then .locked else .badArgument
  | st => st

/-- A taken slot or chain is decoded and taken as its request; data that spell no request complete with their status after R186's checks. -/
def takeDecoded (h : ReqHead) (kind : Byte) (data : List (List Byte)) (s : State) : State :=
  match decodeSlots kind h data with
  | .ok i =>
    match requestOf i with
    | some (_, q) => takeRequest h q s
    | none => s
  | .error st => takeRequest h ⟨kind, data.flatten, fun _ t => (t, .plain (spellStatus t kind st))⟩ s

/-- The data bytes of a chain's slots (R197). -/
def chainData (r : LinkRec) (n : Nat) : List (List Byte) :=
  (List.range n).map (fun k => if k = 0 then (recordAt r 0).drop 5 else (recordAt r k).drop 2)

/-- The place of the first slot of a chain that is no continuation, if there is one (R189). -/
def strayAt (r : LinkRec) (n : Nat) : Option Nat :=
  (List.range n).find? (fun k => k != 0 && (recordAt r k).getD 0 0 != continuationKind)

/-- Whether the slots after the first of a chain are all handed (R188). -/
def chainHanded (r : LinkRec) (n : Nat) : Bool :=
  (List.range n).all (fun k => k == 0 || (r.slots.get (slotAfter r.take k)).phase == .queued)

/-- The slot at the take pointer starts a chain (R188, R189); a chain not wholly handed waits. -/
def takeChain (l : Link) (rcd : List Byte) (s : State) : State :=
  let kind := rcd.getD 0 0
  let count := (rcd.getD 4 0).toNat
  let r := s.link l
  match catalogue kind with
  | none => refuseTake (headOf l rcd 1) kind .badKind .ok s
  | some line =>
    if count < 2 ∨ 8 < count then refuseTake (headOf l rcd 1) kind .badArgument .ok s
    else if line.chain < count then refuseTake (headOf l rcd 1) kind .chainLong .ok s
    else if chainHanded r count = false then s
    else
      match strayAt r count with
      | some k => refuseTake (headOf l rcd k) kind .chainShort .chainShort s
      | none => takeDecoded (headOf l rcd count) kind (chainData r count) s

/-- An orphan continuation reaches the pointer (R189). -/
def takeOrphan (l : Link) (rcd : List Byte) (s : State) : State :=
  refuseTake ⟨l, rcd.getD 1 0, 0, false, 1⟩ continuationKind .chainLong .ok s

/-- The QUEUED slot at the take pointer is taken (R186). -/
def takeSlot (l : Link) (s : State) : State :=
  let r := s.link l
  let rcd := recordAt r 0
  let kind := rcd.getD 0 0
  if kind = continuationKind then takeOrphan l rcd s
  else if (rcd.getD 1 0).getLsbD 0 then takeChain l rcd s
  else
    match catalogue kind with
    | none => refuseTake (headOf l rcd 1) kind .badKind .ok s
    | some _ => takeDecoded (headOf l rcd 1) kind [rcd.drop 5] s

/-- Whether LNK has a slot to take on a link: taking is not stopped and the slot at the pointer is QUEUED (R186, R195). -/
def canTake (s : State) (l : Link) : Bool :=
  s.lnk.resetting.isNone && ((s.link l).slots.get (s.link l).take).phase == .queued

/-- LNK takes slots of a ring in order while it can; the number bounds the takes, and no more than eight can follow one another. -/
def serveRing (l : Link) : Nat → State → State
  | 0, s => s
  | n + 1, s => if canTake s l then serveRing l n (takeSlot l s) else s

/-- The slots of a ring. -/
def ringSize : Nat := 8

/-! ## A request as a command -/

/-- Whether a request can arrive at the take pointer: taking is not stopped, and its slots are the link's to write (R183, R186, R195). -/
def ringReady (s : State) (h : ReqHead) : Bool :=
  s.lnk.resetting.isNone && decide (1 ≤ h.slots ∧ h.slots ≤ ringSize) &&
    (slotsFrom (s.link h.link).take h.slots).all (linkOwned (s.link h.link))

/-- The flags byte of a request's first slot (section 10.8). -/
def flagsByte (h : ReqHead) : Byte := (if 1 < h.slots then 1 else 0) + (if h.notify then 2 else 0)

/-- The records of the slots a request occupies: its head and its data, eleven bytes in the first slot and fourteen in each other, zeros after the last (R197, section 10.8).
DESIGN CHOICE (log entry 12): bytes of a slot that the part does not read are 0, but for the slot count, which a request of one slot carries as 1. -/
def requestRecord (h : ReqHead) (kind : Byte) (data : List Byte) (k : Nat) : List Byte :=
  if k = 0 then fitBytes 16 ([kind, flagsByte h, h.tag, h.target, BitVec.ofNat 8 h.slots] ++ data)
  else fitBytes 16 ([continuationKind, h.tag] ++ data.drop (11 + 14 * (k - 1)))

/-- The slots of a request, written and handed, from the take pointer on (R185). -/
def present (h : ReqHead) (kind : Byte) (data : List Byte) (s : State) : State :=
  s.updLink h.link (fun r =>
    (List.range h.slots).foldl
      (fun q k => { q with slots := q.slots.set (slotAfter r.take k) ⟨.queued, requestRecord h kind data k⟩ }) r)

/-- A request whose data find no room in its slots is CHAIN_SHORT once it has passed R186's checks (R189). -/
def Request.fitted (q : Request) (slots : Nat) : Request :=
  if dataFits slots q.data then q else { q with run := fun _ s => (s, .plain .chainShort) }

/-- A request arrives in the ring and is taken; then the slots behind it are (R186).
One that finds its slots part-owned, or taking stopped, is turned away. -/
def sendRequest (h : ReqHead) (q : Request) (s : State) : State :=
  if ringReady s h then
    let t := present h q.kind q.data s
    match catalogue q.kind with
    | none => serveRing h.link ringSize (refuseTake h q.kind .badKind .ok t)
    | some line =>
      if line.chain < h.slots then serveRing h.link ringSize (refuseTake h q.kind .chainLong .chainLong t)
      else serveRing h.link ringSize (takeRequest h (q.fitted h.slots) t)
  else s

/-- A slot with a record arrives at the take pointer and the ring is served (R186, R189). -/
def sendSlot (h : ReqHead) (rcd : List Byte) (s : State) : State :=
  if ringReady s { h with slots := 1 } then
    serveRing h.link ringSize
      (s.updLink h.link (fun r => { r with slots := r.slots.set r.take ⟨.queued, rcd⟩ }))
  else s

/-! ## Frames (R183 to R185, R192 to R194) -/

/-- A frame ends: its outcome, and what the data-out line sent. -/
def endFrame (l : Link) (o : FrameOutcome) (out : List Byte) (s : State) : State :=
  s.updLink l (fun r => { r with lastFrame := o, dataOut := out, reading := none })

/-- The frame status byte: 0 ACCEPTED, 1 SLOT_BUSY, 2 BAD_FRAME (section 10.8). -/
def frameStatus : FrameOutcome → Byte
  | .slotBusy => 1
  | .badFrame => 2
  | .none | .accepted | .truncated | .stalled => 0

/-- A frame judged BAD_FRAME or SLOT_BUSY is answered with that status and nothing more (R183). -/
def rejectFrame (l : Link) (o : FrameOutcome) (s : State) : State := endFrame l o [frameStatus o] s

/-- The slot index of a WRITE_SLOT argument. -/
def slotIndex (arg : Byte) : Fin 8 := ⟨arg.toNat % 8, Nat.mod_lt _ (by decide)⟩

/-- Whether the hand flag of a WRITE_SLOT argument is set. -/
def handFlag (arg : Byte) : Bool := arg.getLsbD 7

/-- What a WRITE_SLOT is judged at its header (R183). -/
def writeJudged (s : State) (l : Link) (arg : Byte) (busy : Bool) : FrameOutcome :=
  if arg.toNat / 8 % 16 ≠ 0 then .badFrame
  else if busy || !linkOwned (s.link l) (slotIndex arg) then .slotBusy
  else .accepted

/-- WRITE_SLOT at the end of chip-select (R183, R185).
DEDUCED (log entry 20): one cut short ends TRUNCATED whatever it was judged, since R183 lets R185 give another outcome. -/
def writeSlotFrame (l : Link) (arg : Byte) (bytes : List Byte) (busy : Bool) (s : State) : State :=
  let j := writeJudged s l arg busy
  let t := endFrame l (if bytes.length < 16 then .truncated else j) [frameStatus j] s
  if j = .accepted ∧ 16 ≤ bytes.length then
    let ph : Phase := if handFlag arg then .queued else .free
    serveRing l ringSize (t.updLink l (fun r => { r with slots := r.slots.set (slotIndex arg) ⟨ph, bytes.take 16⟩ }))
  else t

/-- READ_SLOT (R183, R185). -/
def readSlotFrame (l : Link) (arg : Byte) (s : State) : State :=
  if 8 ≤ arg.toNat then rejectFrame l .badFrame s
  else
    let x := (s.link l).slots.get (slotIndex arg)
    endFrame l .accepted (frameStatus .accepted :: u8 x.phase.code ++ x.record) s

/-- Whether a READ_NOTICES argument is judged BAD_FRAME: a number wanted of 0 or above 8 (R183). -/
def badWanted (arg : Byte) : Bool := decide (arg.toNat = 0 ∨ 8 < arg.toNat)

/-- How many notices a READ_NOTICES sends (R193). -/
def noticesSent (r : LinkRec) (arg : Byte) : Nat := min arg.toNat r.queue.length

/-- The answer of a READ_NOTICES after the frame status (R193). -/
def noticesAnswer (r : LinkRec) (arg : Byte) : List Byte :=
  u8 (noticesSent r arg) ++ flagByte r.overrun ++ (r.queue.take (noticesSent r arg)).flatMap Notice.bytes

/-- Of the notices a READ_NOTICES sends, how many have had their sixteenth byte shifted out after some bytes of the answer (R193). -/
def noticesOut (sent shifted : Nat) : Nat := min sent ((shifted - 2) / 16)

/-- The stall time of a frame, in ms (R184). -/
def stallMs : Nat := 10

/-- A READ_NOTICES judged ACCEPTED at its header: the answer is fixed, the overrun flag, once answered, is cleared, and the stall timer runs from the header's last clock edge (R184, R193). -/
def LinkRec.readOpen (r : LinkRec) (arg : Byte) : LinkRec :=
  { r with
    overrun := false
    dataOut := [frameStatus .accepted]
    reading := some ⟨noticesSent r arg, 0, noticesAnswer r arg, stallMs⟩ }

/-- More bytes of the answer are shifted out: each notice leaves the queue with its sixteenth byte, and bytes beyond the answer are zero; each clock edge starts the stall timer again (R183, R184, R193). -/
def LinkRec.readShift (r : LinkRec) (n : Nat) : LinkRec :=
  match r.reading with
  | none => r
  | some k =>
    { r with
      queue := r.queue.drop (noticesOut k.sent (k.shifted + n) - noticesOut k.sent k.shifted)
      dataOut := frameStatus .accepted :: fitBytes (k.shifted + n) k.answer
      reading := some { k with shifted := k.shifted + n, stall := if n = 0 then k.stall else stallMs } }

/-- An open READ_NOTICES ends or stalls: what was not fully sent stays in the queue, and the stall timer goes with the frame (R184, R193). -/
def LinkRec.readClose (r : LinkRec) (o : FrameOutcome) : LinkRec :=
  match r.reading with
  | none => r
  | some _ => { r with lastFrame := o, reading := none }

/-- A READ_NOTICES from its header to its end with nothing between: some bytes of its answer shifted out (R193). -/
def LinkRec.readWhole (r : LinkRec) (arg : Byte) (shifted : Nat) (o : FrameOutcome) : LinkRec :=
  ((r.readOpen arg).readShift shifted).readClose o

/-- READ_NOTICES, or the part of one that a command stands for (R183, R193). -/
def readNoticesFrame (l : Link) (arg : Byte) (part : ReadPart) (s : State) : State :=
  match part with
  | .whole n => if badWanted arg then rejectFrame l .badFrame s else s.updLink l (fun r => r.readWhole arg n .accepted)
  | .header => if badWanted arg then rejectFrame l .badFrame s else s.updLink l (fun r => r.readOpen arg)
  | .shift n => s.updLink l (fun r => r.readShift n)
  | .finish => s.updLink l (fun r => r.readClose .accepted)

/-- READ_LINK (R193). -/
def readLinkFrame (l : Link) (arg : Byte) (s : State) : State :=
  if arg ≠ 0 then rejectFrame l .badFrame s
  else
    let r := s.link l
    endFrame l .accepted
      (frameStatus .accepted :: u8 r.take.val ++ u8 r.queue.length ++ flagByte r.overrun ++ u8 (s.perm l.port).bits ++
        flagByte r.attention ++ u8 r.mask.bits ++ u8 r.seq.val ++ u8 r.lastFrame.code) s

/-- A frame stalls (R184): of a READ_NOTICES, what was not fully sent stays in the queue; any other frame changes nothing but the outcome. -/
def stallFrame (l : Link) (f : StalledFrame) (s : State) : State :=
  match f with
  | .header | .other => s.updLink l (fun r => { r with lastFrame := .stalled, reading := none })
  | .readNotices arg n =>
    if badWanted arg then endFrame l .stalled [frameStatus .badFrame] s else s.updLink l (fun r => r.readWhole arg n .stalled)
  | .reading => s.updLink l (fun r => r.readClose .stalled)

/-- A frame header judged BAD_FRAME (R183): the code is none of the five, or its argument is out of place; any other header changes nothing yet. -/
def badFrame (l : Link) (code arg : Byte) (s : State) : State :=
  let bad := match code.toNat with
    | 1 => decide (arg.toNat / 8 % 16 ≠ 0)
    | 2 => decide (8 ≤ arg.toNat)
    | 3 => decide (arg.toNat = 0 ∨ 8 < arg.toNat)
    | 4 | 5 => decide (arg ≠ 0)
    | _ => true
  if bad then rejectFrame l .badFrame s else s

/-- A link record after LINK_RESET (R194). -/
def LinkRec.cleared (r : LinkRec) : LinkRec :=
  { r with slots := .replicate 8 .free, take := 0, queue := [], overrun := false, gen := r.gen + 1, seq := 0 }

/-- LINK_RESET (R183, R194). -/
def linkResetFrame (l : Link) (arg : Byte) (s : State) : State :=
  if arg ≠ 0 then rejectFrame l .badFrame s
  else (endFrame l .accepted [frameStatus .accepted] s).updLink l LinkRec.cleared

end Sys2Proof.Machine
end

