-- ==== Sys2Proof/Machine/Clock.lean ====
section
/-! DEFINITION. One millisecond of the part's clock: every running timer counts, and nothing expires.

The expiry of a timer is a command of its own (spec/opcode_table.json), taken when it comes.
DESIGN CHOICE: the tick is what `step` does while no command waits.
-/
namespace Sys2Proof.Machine

/-- A timer counts down and holds at 0 until its expiry is taken. -/
def downBy (n : Nat) (t : Option Nat) : Option Nat := t.map (fun x => x - n)

/-- The sleep prescaler counts (R22). -/
def ZoneRec.tick (r : ZoneRec) : ZoneRec :=
  { r with sleep := r.sleep.map (fun k => { k with prescaler := min 59999 (k.prescaler + 1) }) }

/-- A sequencer's and the classification's timers count (R33 to R38). -/
def SourceRec.tick (r : SourceRec) : SourceRec :=
  { r with
    seqTimer := downBy 1 r.seqTimer
    syncTimer := downBy 1 r.syncTimer
    laneTimer := downBy 1 r.laneTimer
    quiet := if r.lock = .lost then min 100 (r.quiet + 1) else r.quiet }

/-- A load counts down (R50). -/
def EngineRec.tick (r : EngineRec) : EngineRec := { r with loadTime := downBy 1 r.loadTime }

/-- A channel's retry wait and overcurrent-free run count (R97). -/
def ChanRec.tick (r : ChanRec) : ChanRec :=
  { r with
    retryWait := downBy 1 r.retryWait
    freeRun := if r.state = .active then min 60000 (r.freeRun + 1) else r.freeRun }

/-- A READY window or retry wait counts down (R92, R93). -/
def PkgRec.tick (r : PkgRec) : PkgRec := { r with timer := downBy 1 r.timer }

/-- A fan's timers and the guard of its measurement: 100 counter periods a millisecond (R136, R137).
The count of a measurement advances with its edges, which say how much has passed (log entry 44). -/
def FanRec.tick (r : FanRec) : FanRec :=
  { r with
    spinUp := downBy 1 r.spinUp
    tachTimer := r.tachTimer - 1
    meas := r.meas.map (fun m => { m with guardLeft := downBy 100 m.guardLeft }) }

/-- The tuner's dwell, weak-signal timer and quality monitor (R147, R160). -/
def TunerRec.tick (r : TunerRec) : TunerRec :=
  { r with
    dwell := r.dwell.map (fun d => { d with left := d.left - 1 })
    weak := downBy 1 r.weak
    monitor := if r.state = .idle then r.monitor - 1 else r.monitor }

/-- The announcement's start time and hold (R176, R177). -/
def Announcement.tick (a : Announcement) : Announcement :=
  { a with time := a.time.map (fun t => t + 1), hold := downBy 1 a.hold }

/-- The stall timer of a frame under way (R184). -/
def LinkRec.tick (r : LinkRec) : LinkRec :=
  { r with reading := r.reading.map (fun k => { k with stall := k.stall - 1 }) }

/-- One millisecond passes. -/
def State.tick (s : State) : State :=
  { s with
    zc := { s.zc with zones := s.zc.zones.map ZoneRec.tick }
    siu := { s.siu with sources := s.siu.sources.map SourceRec.tick }
    de := { s.de with engines := s.de.engines.map EngineRec.tick }
    lvu := { s.lvu with rampTimer := s.lvu.rampTimer - 1 }
    acc := { s.acc with
      channels := s.acc.channels.map ChanRec.tick
      packages := s.acc.packages.map PkgRec.tick }
    tlm := { s.tlm with
      thermal := s.tlm.thermal.map (fun r => { r with timer := r.timer - 1 })
      samplingTimer := s.tlm.samplingTimer - 1 }
    fnc := { fans := s.fnc.fans.map FanRec.tick, dutyTimer := s.fnc.dutyTimer - 1 }
    tun := s.tun.tick
    sdd := { s.sdd with ann := s.sdd.ann.tick }
    lnk := { s.lnk with links := s.lnk.links.map LinkRec.tick }
    now := s.now + 1 }

end Sys2Proof.Machine
end

