-- ==== Sys2Proof/Machine/AmpRows.lean ====
section
/-! DEFINITION. The meanings of the commands: the requests and events of the amplifier channels. -/
namespace Sys2Proof.Machine

/-- AMP_ASSIGN (R101, R102). -/
def execAmpAssign (h : ReqHead) (list : List AssignEntry) (s : State) : Host.Outcome State Fault Refusal :=
  .next (sendRequest h (reqAmpAssign list) s)

/-- LINE_CHECK (R105). -/
def execLineCheck (h : ReqHead) (s : State) : Host.Outcome State Fault Refusal :=
  .next (sendRequest h (reqLineCheck h) s)

/-- AMP_QUERY (R108). -/
def execAmpQuery (h : ReqHead) (page : Nat) (s : State) : Host.Outcome State Fault Refusal :=
  .next (sendRequest h (reqAmpQuery h page) s)

/-- CHANNEL_FLOOR_IDLE: a channel reported at the floor whose zone has left PLAYING, or whose package is LATCHED, enters IDLE (R91). -/
def execChannelFloorIdle (c : ChanId) (s : State) : Host.Outcome State Fault Refusal :=
  .next (if s.acc.floorReport.get c.idx = true ∧ awaitsFloor s c = true then enterIdle c s else s)

/-- REASSIGNMENT_SWAP: every draining channel of the reassignment in flight is reported at the floor (R103). -/
def execReassignmentSwap (s : State) : Host.Outcome State Fault Refusal :=
  .next (trySwap s)

/-- READY_ASSERTED: the READY input of a package rises; within an open window the package enters ON (R92). -/
def execReadyAsserted (p : PkgId) (s : State) : Host.Outcome State Fault Refusal :=
  let t : State := { s with acc := { s.acc with ready := s.acc.ready.set p.idx true } }
  .next (if (s.pkg p).power = .enabling then pkgOn p t else t)

/-- READY_WINDOW_EXPIRY: the READY window of a package in ENABLING runs out (R93). -/
def execReadyWindowExpiry (p : PkgId) (s : State) : Host.Outcome State Fault Refusal :=
  .next (if (s.pkg p).power = .enabling then missWindow p s else s)

/-- PACKAGE_RETRY_EXPIRY: the wait of a package in RETRY_WAIT runs out (R93). -/
def execPackageRetryExpiry (p : PkgId) (s : State) : Host.Outcome State Fault Refusal :=
  .next (if (s.pkg p).power = .retryWait then (if pkgNeeded s p then pkgStart p s else pkgOff p s) else s)

/-- READY_LOST: the READY input of a package falls; a package in ON has lost its stage (R94). -/
def execReadyLost (p : PkgId) (s : State) : Host.Outcome State Fault Refusal :=
  let t : State := { s with acc := { s.acc with ready := s.acc.ready.set p.idx false } }
  .next (if (s.pkg p).power = .on then loseReady p t else t)

/-- OVERCURRENT: the overcurrent input of a channel (R96, R106). -/
def execOvercurrent (c : ChanId) (elapsed : Nat) (s : State) : Host.Outcome State Fault Refusal :=
  match (s.chan c).state with
  | .active | .draining => .next (overcurrentFault c s)
  | .testing => .next (overcurrentTesting c elapsed s)
  | .idle | .enabling | .fault | .latched => .next s

/-- CHANNEL_RETRY_EXPIRY: the retry wait of an overcurrent fault runs out (R97). -/
def execChannelRetryExpiry (c : ChanId) (s : State) : Host.Outcome State Fault Refusal :=
  let r := s.chan c
  let t := s.updChan c (fun q => { q with retryWait := none })
  .next
    (if r.state = .fault ∧ r.cause = some .overcurrent ∧ r.retryWait.isSome = true then
      if pkgHeld s c.pkg then t.updChan c (fun q => { q with cause := some (firstHold s c.pkg) }) else enterIdle c t
    else s)

/-- OVERCURRENT_FREE_RUN: an ACTIVE channel has run 60,000 ms without overcurrent (R97). -/
def execOvercurrentFreeRun (c : ChanId) (s : State) : Host.Outcome State Fault Refusal :=
  .next (if (s.chan c).state = .active then s.updChan c (fun r => { r with freeRun := 60000, retries := 0 }) else s)

/-- LINE_CHECK_CROSSING: the current sense of the tested channel crosses its threshold (R106). -/
def execLineCheckCrossing (elapsed : Nat) (s : State) : Host.Outcome State Fault Refusal :=
  match s.acc.check with
  | some k =>
    let n := advanceCounter k.counter elapsed
    .next (if k.counter.isSome then endCheck n (verdictOf n) s else s)
  | none => .next s

/-- LINE_CHECK_COUNTER_FULL: the counter of a running line check reaches 1023 (R106). -/
def execLineCheckCounterFull (s : State) : Host.Outcome State Fault Refusal :=
  match s.acc.check with
  | some k => .next (if k.counter.isSome then endCheck 1023 .open s else s)
  | none => .next s

end Sys2Proof.Machine
end

