-- ==== Sys2Proof/Machine/EngineRows.lean ====
section
/-! DEFINITION. The meanings of the commands: the requests and events of the decode engines and the channel mapper. -/
namespace Sys2Proof.Machine

/-- MAIN_MODE (R59). -/
def execMainMode (h : ReqHead) (mode : Nat) (s : State) : Host.Outcome State Fault Refusal :=
  .next (sendRequest h (reqMainMode h mode) s)

/-- DIALOGUE (R60). -/
def execDialogue (h : ReqHead) (lift : Int) (s : State) : Host.Outcome State Fault Refusal :=
  .next (sendRequest h (reqDialogue h lift) s)

/-- BASS_CONFIG (R63). -/
def execBassConfig (h : ReqHead) (a : BassArgs) (s : State) : Host.Outcome State Fault Refusal :=
  .next (sendRequest h (reqBassConfig a) s)

/-- DOWNMIX_CONFIG (R65). -/
def execDownmixConfig (h : ReqHead) (a : DownmixArgs) (s : State) : Host.Outcome State Fault Refusal :=
  .next (sendRequest h (reqDownmixConfig a) s)

/-- ENGINE_QUERY (R66). -/
def execEngineQuery (h : ReqHead) (page : Nat) (s : State) : Host.Outcome State Fault Refusal :=
  .next (sendRequest h (reqEngineQuery h page) s)

/-- LOAD_END: the load time of an engine in LOADING runs out (R50). -/
def execLoadEnd (e : EngineId) (s : State) : Host.Outcome State Fault Refusal :=
  .next (if (s.eng e).state = .loading then endLoad e s else s)

end Sys2Proof.Machine
end

