-- ==== Sys2Proof/Machine/FanRows.lean ====
section
/-! DEFINITION. The meanings of the commands: the requests and events of the fan controller. -/
namespace Sys2Proof.Machine

/-- FAN_CURVE (R140). -/
def execFanCurve (h : ReqHead) (a : FanSettings) (s : State) : Host.Outcome State Fault Refusal :=
  .next (sendRequest h (reqFanCurve h a) s)

/-- FAN_QUERY (R141). -/
def execFanQuery (h : ReqHead) (page : Nat) (s : State) : Host.Outcome State Fault Refusal :=
  .next (sendRequest h (reqFanQuery h page) s)

/-- DUTY_STEP: a duty step for both fans (R135). -/
def execDutyStep (s : State) : Host.Outcome State Fault Refusal :=
  let t := FanId.all.foldl (fun u f => u.setFan f (u.fan f).dutyStep) s
  .next { t with fnc := { t.fnc with dutyTimer := 100 } }

/-- SPIN_UP_EXPIRY: the spin-up time of a fan in spin-up runs out (R136). -/
def execSpinUpExpiry (f : FanId) (s : State) : Host.Outcome State Fault Refusal :=
  let r := s.fan f
  .next (if r.spinUp.isSome then s.setFan f (r.endSpinUp.afterDuty r.outDuty) else s)

/-- TACH_UPDATE: the tach update timer of a fan expires (R137 to R139). -/
def execTachUpdate (f : FanId) (s : State) : Host.Outcome State Fault Refusal :=
  .next (tachUpdate f s)

/-- TACH_EDGE: a falling edge of a tach input (R137). -/
def execTachEdge (f : FanId) (periods : Nat) (s : State) : Host.Outcome State Fault Refusal :=
  let r := s.fan f
  match r.meas with
  | some m => .next (s.setFan f (r.edge m periods))
  | none => .next s

/-- GUARD_END: the guard of a measurement is over (R137). -/
def execGuardEnd (f : FanId) (s : State) : Host.Outcome State Fault Refusal :=
  .next (s.setFan f { s.fan f with meas := (s.fan f).meas.map (fun m => { m with guardLeft := none }) })

/-- TACH_COUNT_LIMIT: the count of a measurement reaches 65,533 before its last edge (R137). -/
def execTachCountLimit (f : FanId) (s : State) : Host.Outcome State Fault Refusal :=
  let r := s.fan f
  match r.meas with
  | some m => .next (if 0 < m.edges then s.setFan f r.measAbandon else s)
  | none => .next s

end Sys2Proof.Machine
end

