-- ==== Sys2Proof/Machine/KeypadRows.lean ====
section
/-! DEFINITION. The meanings of the commands: the requests, messages and events of the keypad port. -/
namespace Sys2Proof.Machine

/-- KEYPAD_BIND (R200). -/
def execKeypadBind (h : ReqHead) (keypad : Nat) (zone : Nat) (s : State) : Host.Outcome State Fault Refusal :=
  .next (sendRequest h (reqKeypadBind keypad zone) s)

/-- KEYMAP_LOAD (R201). -/
def execKeymapLoad (h : ReqHead) (start : Nat) (count : Nat) (list : List KeyEntryArg) (s : State) : Host.Outcome State Fault Refusal :=
  .next (sendRequest h (reqKeymapLoad start count list) s)

/-- KEYPAD_QUERY (R204). -/
def execKeypadQuery (h : ReqHead) (page : Nat) (s : State) : Host.Outcome State Fault Refusal :=
  .next (sendRequest h (reqKeypadQuery page) s)

/-- KEY_MESSAGE: a write of two bytes on the keypad bus (R198, R199). -/
def execKeyMessage (b0 : Byte) (b1 : Byte) (s : State) : Host.Outcome State Fault Refusal :=
  .next (busWrite [b0, b1] s)

/-- SELECT: a write of one byte on the keypad bus (R198, R200). -/
def execSelect (b0 : Byte) (s : State) : Host.Outcome State Fault Refusal :=
  .next (busWrite [b0] s)

/-- MALFORMED_KEYPAD_WRITE: any other write on the keypad bus, judged by its bytes (R198). -/
def execMalformedKeypadWrite (bytes : List Byte) (s : State) : Host.Outcome State Fault Refusal :=
  .next (busWrite bytes s)

/-- READBACK_READ: a read on the keypad bus (R198). -/
def execReadbackRead (count : Nat) (s : State) : Host.Outcome State Fault Refusal :=
  .next (busRead count s)

/-- KEY_PRESS: KPP handles a press that is the oldest entry of its buffer (R199, R202, R203). -/
def execKeyPress (s : State) : Host.Outcome State Fault Refusal :=
  .next (handleOldest .press (fun pad code t => pressKey pad code false t) s)

/-- KEY_REPEAT: KPP handles a repeat that is the oldest entry of its buffer (R199, R202, R203). -/
def execKeyRepeat (s : State) : Host.Outcome State Fault Refusal :=
  .next (handleOldest .again repeatKey s)

/-- KEY_RELEASE: KPP handles a release that is the oldest entry of its buffer (R199, R203). -/
def execKeyRelease (s : State) : Host.Outcome State Fault Refusal :=
  .next (handleOldest .release (fun pad _ t => releaseKey pad t) s)

end Sys2Proof.Machine
end

