-- ==== Sys2Proof/Machine/LevelRows.lean ====
section
/-! DEFINITION. The meanings of the commands: the requests and events of the level unit, and the clip window. -/
namespace Sys2Proof.Machine

/-- CHANNEL_TRIM (R74). -/
def execChannelTrim (h : ReqHead) (trim : Int) (s : State) : Host.Outcome State Fault Refusal :=
  .next (sendRequest h (reqChannelTrim h trim) s)

/-- LEVEL_QUERY (R84). -/
def execLevelQuery (h : ReqHead) (page : Nat) (s : State) : Host.Outcome State Fault Refusal :=
  .next (sendRequest h (reqLevelQuery h page) s)

/-- RAMP_STEP: every level record moves toward its target, and the floor is reported (R75, R78). -/
def execRampStep (s : State) : Host.Outcome State Fault Refusal :=
  let t := reportFloor (s.eachOut rampOut)
  .next { t with lvu := { t.lvu with rampTimer := 1 } }

/-- CLIP_WINDOW_END: the clip window of a zone that plays or switches ends (R80, R123, R124). -/
def execClipWindowEnd (z : ZoneId) (s : State) : Host.Outcome State Fault Refusal :=
  .next (if (s.zone z).state = .playing ∨ (s.zone z).state = .switching then endClipWindow z s else s)

end Sys2Proof.Machine
end

