-- ==== Sys2Proof/Machine/LinkRows.lean ====
section
/-! DEFINITION. The meanings of the commands: the requests, frames and events of the control links. -/
namespace Sys2Proof.Machine

/-- LINK_PERMIT (R190). -/
def execLinkPermit (h : ReqHead) (who : Nat) (perms : PermSet) (s : State) : Host.Outcome State Fault Refusal :=
  .next (sendRequest h (reqLinkPermit who perms) s)

/-- NOTICE_MASK (R192). -/
def execNoticeMask (h : ReqHead) (classes : ClassSet) (attention : Bool) (s : State) : Host.Outcome State Fault Refusal :=
  .next (sendRequest h (reqNoticeMask h classes attention) s)

/-- SOFT_RESET (R195). -/
def execSoftReset (h : ReqHead) (s : State) : Host.Outcome State Fault Refusal :=
  .next (sendRequest h reqSoftReset s)

/-- SOFT_RESET_DONE: every block has finished; the slot completes, RESET_DONE is posted and taking resumes (R195). -/
def execSoftResetDone (s : State) : Host.Outcome State Fault Refusal :=
  match s.lnk.resetting with
  | none => .next s
  | some k =>
    let t : State := { s with lnk := { s.lnk with resetting := none } }
    .next (inEitherOrder (serveRing .s ringSize) (serveRing .n ringSize) ((t.complete k .ok 0 []).post .resetDone .s))

/-- UNKNOWN_REQUEST_KIND: a slot whose kind names no request (R186, R188). -/
def execUnknownRequestKind (h : ReqHead) (kind : Byte) (s : State) : Host.Outcome State Fault Refusal :=
  .next (sendSlot h (requestRecord h kind [] 0) s)

/-- CONTINUATION: a continuation slot on its own at the take pointer (R189). -/
def execContinuation (h : ReqHead) (s : State) : Host.Outcome State Fault Refusal :=
  .next (sendSlot h (requestRecord h continuationKind [] 1) s)

/-- WRITE_SLOT (R183, R185, R186, R188, R189). -/
def execWriteSlot (l : Link) (arg : Byte) (bytes : List Byte) (busyAtHeader : Bool) (s : State) : Host.Outcome State Fault Refusal :=
  .next (writeSlotFrame l arg bytes busyAtHeader s)

/-- READ_SLOT (R183, R185). -/
def execReadSlot (l : Link) (arg : Byte) (s : State) : Host.Outcome State Fault Refusal :=
  .next (readSlotFrame l arg s)

/-- READ_NOTICES (R183, R193). -/
def execReadNotices (l : Link) (arg : Byte) (part : ReadPart) (s : State) : Host.Outcome State Fault Refusal :=
  .next (readNoticesFrame l arg part s)

/-- READ_LINK (R183, R193). -/
def execReadLink (l : Link) (arg : Byte) (s : State) : Host.Outcome State Fault Refusal :=
  .next (readLinkFrame l arg s)

/-- LINK_RESET (R183, R194). -/
def execLinkReset (l : Link) (arg : Byte) (s : State) : Host.Outcome State Fault Refusal :=
  .next (linkResetFrame l arg s)

/-- BAD_FRAME: a frame code that is none of the five, or an argument judged BAD_FRAME (R183). -/
def execBadFrame (l : Link) (code : Byte) (arg : Byte) (s : State) : Host.Outcome State Fault Refusal :=
  .next (badFrame l code arg s)

/-- FRAME_TRUNCATED: chip-select ends before the header is complete (R183). -/
def execFrameTruncated (l : Link) (s : State) : Host.Outcome State Fault Refusal :=
  .next (endFrame l .truncated [] s)

/-- FRAME_STALL: no clock edge for 10 ms within a frame (R184). -/
def execFrameStall (l : Link) (f : StalledFrame) (s : State) : Host.Outcome State Fault Refusal :=
  .next (stallFrame l f s)

end Sys2Proof.Machine
end

