-- ==== Sys2Proof/Machine/ResetRows.lean ====
section
/-! DEFINITION. The meanings of the commands: power-on reset. -/
namespace Sys2Proof.Machine

/-- POWER_ON_RESET: every block takes its defaults (R2, R29, R67, R85, R110, R131, R142, R145, R182, R204); the commands still to come stay. -/
def execPowerOnReset (s : State) : Host.Outcome State Fault Refusal :=
  .next { State.reset with pending := s.pending, choices := s.choices }

end Sys2Proof.Machine
end

