-- ==== Sys2Proof/Machine/Sample.lean ====
section
/-! DEFINITION. One sample period of a source: PCM roles, the engine's roles, the mapping to outputs, the level chain's last stages and the clip window's position (R38, R41, R42, R54, R57, R58, R64, R79, R80, R123). -/
namespace Sys2Proof.Machine

/-! ## What a source and an engine deliver -/

/-- Roles and their samples in one sample period. -/
structure Feed where
  roles : RoleSet
  samples : RoleSamples
  deriving DecidableEq, Repr

/-- Silence with no roles. -/
def Feed.silence : Feed := ⟨.empty, .zero⟩

/-- A feed: samples of exactly its roles. -/
def feedOf (roles : RoleSet) (x : RoleSamples) : Feed := ⟨roles, only roles x⟩

/-- The roles of PCM of two channels (R57). -/
def stereoRoles : RoleSet := ⟨true, true, false, false, false, false, false, false, false, false⟩

/-- The roles PCMM carries: those of the lanes that show transitions, whatever the channel count field last took (R38, R57). -/
def activeLaneRoles (s : State) : RoleSet :=
  let g := fun i => s.siu.lanes.get i
  ⟨g 0, g 0, g 1, g 1, g 2, g 2, g 3, g 3, false, false⟩

/-- The mono sum of two samples (R147). -/
def monoOf (l r : Int) : Int := (Config.monoSum (BitVec.ofInt 24 l) (BitVec.ofInt 24 r)).toInt

/-- What the receiver's samples become for TUNER: the mono sum on both sides while the stereo flag is false (R147). -/
def tunerSamples (s : State) (src : Src) (x : RoleSamples) : RoleSamples :=
  if src = .tuner ∧ s.tun.stereo = false then { x with fl := monoOf x.fl x.fr, fr := monoOf x.fl x.fr } else x

/-- The PCM a source delivers in a sample period (R38, R41, R42). -/
def pcmFeed (s : State) (src : Src) (x : RoleSamples) : Feed :=
  let r := s.src src
  match r.format with
  | .pcm2 => feedOf stereoRoles (if r.silenced then .zero else tunerSamples s src x)
  | .pcmm => feedOf (activeLaneRoles s) (if r.silenced then .zero else x)
  | .none | .codedA | .codedB => .silence

/-- The samples of one position of a segment (R54, R55). -/
def segmentFeed (g : Segment) : Feed :=
  match g.frame with
  | none => ⟨g.roles, .zero⟩
  | some (k, content) => feedOf g.roles (.of (fun r => (Config.codecSample k content r g.pos).toInt))

/-- The delivery queue after one sample period. -/
def advanceDelivery : List Segment → List Segment
  | [] => []
  | g :: l => if g.pos + 1 < g.len then { g with pos := g.pos + 1 } :: l else l

/-- What an engine delivers in a sample period (R54, R58). -/
def engineFeed (r : EngineRec) (pcm : Feed) : Feed :=
  match r.state, r.mode with
  | .running, .upmix => ⟨.upmix, upmix pcm.samples.fl pcm.samples.fr⟩
  | .running, .decode =>
    match r.delivery with
    | [] => ⟨r.roles, .zero⟩
    | g :: _ => segmentFeed g
  | .free, _ | .loading, _ => .silence

/-! ## Outputs (R79, R80) -/

/-- The scaled sample before saturation (R79). -/
def scaled (x : Int) (g : Nat) : Int := (x * g + 524288) / 1048576

/-- The ends of the sample range (section 6.1). -/
def sampleMin : Int := -8388608
def sampleTop : Int := 8388607

/-- Whether R79 saturates a value. -/
def clips (y : Int) : Bool := decide (y < sampleMin ∨ sampleTop < y)

/-- An output scales and delivers one sample, counting a clip (R79, R80). -/
def outputSample (o : OutId) (x : Int) (s : State) : State :=
  let r := s.lev o
  let y := scaled x r.gain
  let t : State := { s with lvu := { s.lvu with samples := s.lvu.samples.set o.idx (clampInt sampleMin sampleTop y) } }
  if clips y then t.setLev o { t.lev o with clips := min 65535 (r.clips + 1), clipFlag := true } else t

/-- The mixed sample of an output of a zone (R81). -/
def mixedSample (s : State) (main : MainSignals) (lr : Int × Int) : OutId → Int
  | .ac c =>
    match (s.chan c).assign with
    | none => 0
    | some a =>
      match a.zone with
      | .main => main.get a.role
      | .z2 | .z3 => match a.role with
        | .l => lr.1
        | .r => lr.2
        | .fl | .fr | .c | .sl | .sr | .sbl | .sbr | .hl | .hr => 0
  | .line .sw1 | .line .sw2 => main.sw
  | .line .z2l | .line .z3l => lr.1
  | .line .z2r | .line .z3r => lr.2

/-- The signals of MAIN in a sample period at a rate, and the section states after it (R57, R62).
The sections stand at 0 while MAIN is not PLAYING. -/
def mainPeriod (s : State) (rate : Nat) (x : RoleSamples) : State × MainSignals :=
  let (f, y) := mainSignals s.cmap s.zc.mode rate x
  (if (s.zone .main).state = .playing then { s with cmap := { s.cmap with filters := f } } else s, y)

/-- No signal on any of MAIN's roles. -/
def MainSignals.zero : MainSignals := ⟨0, 0, 0, 0, 0, 0, 0, 0, 0, 0⟩

/-- The position of a zone's clip window after a sample period at a rate (R123). -/
def windowNext (pos rate : Nat) : Nat := if rate ≤ pos + 1 then 0 else pos + 1

/-- A zone takes one sample period of its input (R79, R123). -/
def zonePeriod (rate : Nat) (feed : Feed) (z : ZoneId) (s : State) : State :=
  let (t, main) := if z = .main then mainPeriod s rate feed.samples else (s, MainSignals.zero)
  let lr := downmix t.cmap feed.samples
  let u := t.eachOut (fun o v => if outZone v o = some z then outputSample o (mixedSample v main lr o) v else v)
  u.setGuard z { u.guard z with pos := windowNext (u.guard z).pos rate }

/-- Whether a zone takes the sample periods of a source: it is PLAYING or SWITCHING on it (R123). -/
def takesSamples (s : State) (src : Src) (z : ZoneId) : Bool :=
  (s.zone z).source == src && ((s.zone z).state == .playing || (s.zone z).state == .switching)

/-- One sample period of a source that has a sample rate. -/
def samplePeriod (src : Src) (x : RoleSamples) (s : State) : State :=
  match (s.src src).rate with
  | none => s
  | some rate =>
    let pcm := pcmFeed s src x
    let e := (s.src src).engine
    let decoded := match e with
      | none => Feed.silence
      | some i => engineFeed (s.eng i) pcm
    let t : State := match e with
      | none => s
      | some i =>
        if (s.eng i).state = .running ∧ (s.eng i).mode = .decode then
          s.updEng i (fun r => { r with delivery := advanceDelivery r.delivery })
        else s
    t.eachZone (fun z u =>
      if takesSamples u src z then
        zonePeriod rate.hz (if e.isSome ∧ (u.zone z).engine = e then decoded else pcm) z u
      else u)

end Sys2Proof.Machine
end

