-- ==== Sys2Proof/Machine/SourceRows.lean ====
section
/-! DEFINITION. The meanings of the commands: the requests and events of the source inputs, and the sample period. -/
namespace Sys2Proof.Machine

/-- SOURCE_TRIM (R44). -/
def execSourceTrim (h : ReqHead) (trim : Int) (s : State) : Host.Outcome State Fault Refusal :=
  .next (sendRequest h (reqSourceTrim h trim) s)

/-- SOURCE_QUERY (R45). -/
def execSourceQuery (h : ReqHead) (page : Nat) (s : State) : Host.Outcome State Fault Refusal :=
  .next (sendRequest h (reqSourceQuery h page) s)

/-- LOCK_ACHIEVED: the receiver of a SEEKING input has a stable clock; a rate outside the seven is no lock (R33). -/
def execLockAchieved (c : Clocked) (hz : Nat) (s : State) : Host.Outcome State Fault Refusal :=
  match Rate.ofHz hz with
  | some f => .next (if (s.src c.src).lock = .seeking then achieveLock c.src f s else s)
  | none => .next s

/-- ATTEMPT_WINDOW_EXPIRY: a SEEKING input has not locked (R34). -/
def execAttemptWindowExpiry (c : Clocked) (s : State) : Host.Outcome State Fault Refusal :=
  .next (if (s.src c.src).lock = .seeking then failAttempt c.src s else s)

/-- BACKOFF_EXPIRY: the wait of a sequencer in BACKOFF is over (R34). -/
def execBackoffExpiry (c : Clocked) (s : State) : Host.Outcome State Fault Refusal :=
  .next (if (s.src c.src).lock = .backoff then s.updSrc c.src SourceRec.retry else s)

/-- LOCK_LOST: the receiver of a LOCKED input loses its clock or measures another rate (R36). -/
def execLockLost (c : Clocked) (s : State) : Host.Outcome State Fault Refusal :=
  .next (if (s.src c.src).lock = .locked then loseLock c.src s else s)

/-- ACTIVITY_DETECTOR_ARM: an input in LOST has shown no transitions for 100 ms (R35). -/
def execActivityDetectorArm (c : Clocked) (s : State) : Host.Outcome State Fault Refusal :=
  .next (if (s.src c.src).lock = .lost then s.updSrc c.src (fun r => { r with armed := true }) else s)

/-- ACTIVITY: a transition on an input in LOST; it starts the attempts if the detector is armed (R35). -/
def execActivity (c : Clocked) (s : State) : Host.Outcome State Fault Refusal :=
  let r := s.src c.src
  .next
    (if r.lock = .lost then
      if r.armed then wakeSource (fun _ => .part) c.src s else s.updSrc c.src (fun q => { q with quiet := 0 })
    else s)

/-- SYNC_TIMER_EXPIRY: no sync word for 64 ms on a LOCKED input (R37). -/
def execSyncTimerExpiry (c : Clocked) (s : State) : Host.Outcome State Fault Refusal :=
  .next (if (s.src c.src).lock = .locked ∧ (s.src c.src).syncTimer.isSome = true then syncExpiry c s else s)

/-- LANE_TIMER_EXPIRY: the lanes of MCI have differed from the channel count for 64 ms (R38). -/
def execLaneTimerExpiry (s : State) : Host.Outcome State Fault Refusal :=
  .next (if (s.src .mci).format = .pcmm ∧ (s.src .mci).laneTimer.isSome = true then laneExpiry s else s)

/-- LANE_ACTIVITY: a lane of MCI starts or stops showing transitions (R38). -/
def execLaneActivity (lane : Fin 4) (on : Bool) (s : State) : Host.Outcome State Fault Refusal :=
  .next (judgeLanes { s with siu := { s.siu with lanes := s.siu.lanes.set lane on } })

/-- CODED_FRAME: a frame on the classification lane of a LOCKED input (R37, R39 to R43, R54 to R56). -/
def execCodedFrame (c : Clocked) (f : FrameIn) (s : State) : Host.Outcome State Fault Refusal :=
  .next (if (s.src c.src).lock = .locked then takeCodedFrame c.src f s else s)

/-- SAMPLE_PERIOD: one sample period of a source (R54, R57, R58, R64, R79, R80, R123). -/
def execSamplePeriod (src : Src) (x : RoleSamples) (s : State) : Host.Outcome State Fault Refusal :=
  .next (samplePeriod src x s)

end Sys2Proof.Machine
end

