-- ==== Sys2Proof/Machine/Station.lean ====
section
/-! DEFINITION. The reading of the data subcarrier: checks, sync, groups, station data and the committed name (R167 to R173). -/
namespace Sys2Proof.Machine

/-! ## Words and their checks (R167) -/

/-- One bit of the division by x^8 + x^2 + x + 1. -/
def crcBit (r : BitVec 8) (b : Bool) : BitVec 8 :=
  if (r.getLsbD 7 ^^ b) then (r <<< 1) ^^^ 7 else r <<< 1

/-- The bits of a word or of its data, most significant first. -/
def bitsOf {n : Nat} (w : BitVec n) : List Bool := (List.range n).map (fun i => w.getLsbD (n - 1 - i))

/-- A list of bits as a number, most significant first. -/
def ofBits (l : List Bool) : Nat := l.foldl (fun n b => 2 * n + (if b then 1 else 0)) 0

/-- The remainder of the 16 data bits, followed by eight zero bits (R167). -/
def remainder (d : BitVec 16) : BitVec 8 := (bitsOf d).foldl crcBit 0

/-- The constant of a word's position in the group (R167). -/
def WordPos.constant : WordPos → BitVec 8
  | .a => 0x0F
  | .b => 0x33
  | .c => 0x55
  | .d => 0x99

/-- The check of a word at a position (R167). -/
def checkOf (p : WordPos) (d : BitVec 16) : BitVec 8 := remainder d ^^^ p.constant

/-- The position after another in group order, A after D (R169). -/
def WordPos.next : WordPos → WordPos
  | .a => .b
  | .b => .c
  | .c => .d
  | .d => .a

/-- The data of 24 bits. -/
def dataOf (l : List Bool) : BitVec 16 := BitVec.ofNat 16 (ofBits (l.take 16))

/-- Whether the first 24 of a list of bits are a good word at a position (R167). -/
def goodAt (p : WordPos) (l : List Bool) : Bool :=
  decide (checkOf p (dataOf l) = BitVec.ofNat 8 (ofBits ((l.drop 16).take 8)))

/-- The position at which the first 24 bits are a good word, if there is one. -/
def goodPos (l : List Bool) : Option WordPos := [WordPos.a, .b, .c, .d].find? (fun p => goodAt p l)

/-! ## SEARCH (R169) -/

/-- What SEARCH finds at the front of its bits. -/
inductive RunResult where
  /-- the bits at hand do not decide yet -/
  | wait
  /-- no run, or a run dropped: sliding resumes one bit on -/
  | slide
  /-- a run of three good words that began at a position -/
  | sync (p : WordPos)
  deriving DecidableEq, Repr

/-- The run at the front of the bits of SEARCH (R169). -/
def runAt (l : List Bool) : RunResult :=
  if l.length < 24 then .wait
  else
    match goodPos l with
    | none => .slide
    | some p =>
      if l.length < 48 then .wait
      else if goodAt p.next (l.drop 24) = false then .slide
      else if l.length < 72 then .wait
      else if goodAt p.next.next (l.drop 48) = false then .slide
      else .sync p

/-- The group in progress after a run that began at a position: the words from its A on (R169). -/
def runGroup (p : WordPos) (l : List Bool) : Option (List (BitVec 16)) :=
  let d1 := dataOf l
  let d2 := dataOf (l.drop 24)
  let d3 := dataOf (l.drop 48)
  match p with
  | .a => some [d1, d2, d3]
  | .b => none
  | .c => some [d3]
  | .d => some [d2, d3]

/-- SDD enters SYNCED with three good entries in its window (R169). -/
def enterSync (p : WordPos) (s : State) : State :=
  let d := s.sdd
  { s with sdd := { d with
      sync := .synced
      window := [true, true, true]
      pos := p.next.next.next
      group := runGroup p d.bits
      bits := d.bits.drop 72 } }

/-! ## Station data (R171 to R173) -/

def State.setData (s : State) (d : StationData) : State := { s with sdd := { s.sdd with data := d } }

/-- SDD hands a station code to TUN as a commit (R155, R171). -/
def commitCode (code : BitVec 16) (s : State) : State := commitStation (fun x => { x with code := some code }) s

/-- The station code of a good group, the tuner IDLE (R171). -/
def takeCode (code : BitVec 16) (s : State) : State :=
  match s.sdd.data.code with
  | none => commitCode code (s.setData { s.sdd.data with code := some code })
  | some c => if c = code then s else commitCode code (flagCleared (s.setData { StationData.cleared with code := some code }))

/-- The most codes the AF list holds (R172). -/
def afMax : Nat := 25

/-- An AF code is offered to the AF list (R172). -/
def offerAf (l : List Nat) (n : Nat) : List Nat :=
  if 1 ≤ n ∧ n ≤ 205 ∧ l.contains n = false ∧ l.length < afMax then l ++ [n] else l

/-- The fields of word B (R167): group type, class, traffic-capable flag, announcement flag, segment. -/
def groupType (b : BitVec 16) : Nat := b.toNat / 4096
def groupClass (b : BitVec 16) : Nat := b.toNat / 128 % 32
def groupTraffic (b : BitVec 16) : Bool := b.getLsbD 6
def groupFlag (b : BitVec 16) : Bool := b.getLsbD 5
def groupSegment (b : BitVec 16) : Fin 4 := ⟨b.toNat / 8 % 4, Nat.mod_lt _ (by decide)⟩

/-- The upper and lower eight bits of a word's data. -/
def hiByte (d : BitVec 16) : Byte := BitVec.ofNat 8 (d.toNat / 256)
def loByte (d : BitVec 16) : Byte := BitVec.ofNat 8 d.toNat

/-- The fields and AF codes of a type 0 group (R172). -/
def StationData.takeFields (x : StationData) (b c : BitVec 16) : StationData :=
  { x with
    cls := some (groupClass b)
    traffic := groupTraffic b
    announcement := groupFlag b
    afList := offerAf (offerAf x.afList (hiByte c).toNat) (loByte c).toNat }

/-- A segment record offered two characters (R173). -/
def Segments.offer (x : Segments) (ch : Byte × Byte) : Segments :=
  if x.candidate = some ch then { x with confirmed := some ch } else { x with candidate := some ch }

/-- The name of four confirmed segments, if all are confirmed (R173). -/
def nameOf (t : Tab 4 Segments) : Option (List Byte) :=
  match (t.get 0).confirmed, (t.get 1).confirmed, (t.get 2).confirmed, (t.get 3).confirmed with
  | some a, some b, some c, some d => some [a.1, a.2, b.1, b.2, c.1, c.2, d.1, d.2]
  | _, _, _, _ => none

/-- A name is committed: SDD keeps it, hands it to TUN and posts NAME (R173). -/
def commitName (n : List Byte) (s : State) : State :=
  (commitStation (fun x => { x with name := some n }) (s.setData { s.sdd.data with name := some n })).post
    (.stationName s.sdd.data.code n) .part

/-- The characters of a type 0 group (R173). -/
def takeChars (seg : Fin 4) (ch : Byte × Byte) (s : State) : State :=
  let old := s.sdd.data.segments.get seg
  let new := old.offer ch
  let t := s.setData { s.sdd.data with segments := s.sdd.data.segments.set seg new }
  if old.confirmed = new.confirmed then t
  else
    match nameOf t.sdd.data.segments with
    | none => t
    | some n => if t.sdd.data.name = some n then t else commitName n t

/-- A good type 0 group, the tuner IDLE (R172, R173, R176, R177).
DEDUCED (log entry 19): the upper eight bits of word D are the first of its two characters. -/
def takeType0 (a b c d : BitVec 16) (s : State) : State :=
  let t := takeChars (groupSegment b) (hiByte d, loByte d) (s.setData (s.sdd.data.takeFields b c))
  if groupFlag b then flagSeen (groupClass b) a t else flagCleared t

/-- A good group of types 1 to 15 is counted, whatever the tuner does: the count is no station data (R168, R171). -/
def countOther (s : State) : State := { s with sdd := { s.sdd with otherGroups := min 65535 (s.sdd.otherGroups + 1) } }

/-- A good group (R171). -/
def takeGroup (a b c d : BitVec 16) (s : State) : State :=
  let t := codeReported a s
  let idle := t.tun.state = .idle
  let u := if idle then takeCode a t else t
  if groupType b ≠ 0 then countOther u
  else if idle then takeType0 a b c d u
  else u

/-! ## SYNCED (R170) -/

/-- The most entries of the word window, and the bad ones that lose sync (R170). -/
def windowMax : Nat := 16
def badLimit : Nat := 6

/-- The word window with an outcome entered (R170). -/
def windowPush (w : List Bool) (good : Bool) : List Bool := (if w.length < windowMax then w else w.drop 1) ++ [good]

/-- Sync is lost (R170). -/
def loseSync (s : State) : State :=
  flagCleared { s with sdd := { s.sdd.search s.sdd.bits with data := { s.sdd.data with announcement := false } } }

/-- A good word's data joins the group in progress; word A starts one (R171). -/
def joinGroup (g : Option (List (BitVec 16))) (p : WordPos) (d : BitVec 16) : Option (List (BitVec 16)) :=
  match p with
  | .a => some [d]
  | .b | .c | .d => g.map (fun l => l ++ [d])

/-- SDD reads one word in SYNCED (R170, R171). -/
def readWord (s : State) : State :=
  let d := s.sdd
  let data := dataOf d.bits
  let good := goodAt d.pos d.bits
  let w := windowPush d.window good
  let t : State := { s with sdd := { d with bits := d.bits.drop 24, window := w, pos := d.pos.next } }
  if good then
    let g := joinGroup d.group d.pos data
    let u : State := { t with sdd := { t.sdd with group := if d.pos = .d then none else g } }
    match d.pos, g with
    | .d, some [a, b, c, e] => takeGroup a b c e u
    | _, _ => u
  else
    let u : State := { t with sdd := { t.sdd with badWords := min 65535 (d.badWords + 1), group := none } }
    if badLimit ≤ (w.filter (fun x => !x)).length then loseSync u else u

/-- SDD reads what it can of the bits it holds; the number bounds the words and slides taken (R169, R170). -/
def readBits : Nat → State → State
  | 0, s => s
  | k + 1, s =>
    match s.sdd.sync with
    | .search =>
      match runAt s.sdd.bits with
      | .wait => s
      | .slide => readBits k { s with sdd := { s.sdd with bits := s.sdd.bits.drop 1 } }
      | .sync p => readBits k (enterSync p s)
    | .synced => if s.sdd.bits.length < 24 then s else readBits k (readWord s)

/-- The next 24 bits of the subcarrier; on AM there are none (R167). -/
def takeBits (w : BitVec 24) (s : State) : State :=
  if s.tun.band = .fm then
    let l := s.sdd.bits ++ bitsOf w
    readBits (l.length + 1) { s with sdd := { s.sdd with bits := l } }
  else s

end Sys2Proof.Machine
end

