-- ==== Sys2Proof/Machine/StationRows.lean ====
section
/-! DEFINITION. The meanings of the commands: the requests and events of the station data decoder. -/
namespace Sys2Proof.Machine

/-- ANNOUNCE_FILTER (R175). -/
def execAnnounceFilter (h : ReqHead) (home : Option (BitVec 16)) (mask : BitVec 32) (acceptAll : Bool) (s : State) : Host.Outcome State Fault Refusal :=
  .next (sendRequest h (reqAnnounceFilter home mask acceptAll) s)

/-- STATION_DATA_QUERY (R180). -/
def execStationDataQuery (h : ReqHead) (page : Nat) (s : State) : Host.Outcome State Fault Refusal :=
  .next (sendRequest h (reqStationDataQuery page) s)

/-- SUBCARRIER_WORD: 24 bits of the data subcarrier (R167, R169 to R173). -/
def execSubcarrierWord (w : BitVec 24) (s : State) : Host.Outcome State Fault Refusal :=
  .next (takeBits w s)

/-- ANNOUNCE_HOLD_EXPIRY: the hold of an ENDING announcement runs out (R177). -/
def execAnnounceHoldExpiry (s : State) : Host.Outcome State Fault Refusal :=
  .next (holdExpiry s)

end Sys2Proof.Machine
end

