-- ==== Sys2Proof/Machine/ThermalRows.lean ====
section
/-! DEFINITION. The meanings of the commands: the requests and events of the thermal and load monitor. -/
namespace Sys2Proof.Machine

/-- PROT_LIMITS (R116). -/
def execProtLimits (h : ReqHead) (a : Limits) (s : State) : Host.Outcome State Fault Refusal :=
  .next (sendRequest h (reqProtLimits a) s)

/-- CLIP_GUARD (R125). -/
def execClipGuard (h : ReqHead) (limit : Nat) (s : State) : Host.Outcome State Fault Refusal :=
  .next (sendRequest h (reqClipGuard h limit) s)

/-- PROT_LOCK (R129). -/
def execProtLock (h : ReqHead) (s : State) : Host.Outcome State Fault Refusal :=
  .next (sendRequest h reqProtLock s)

/-- PROT_CLEAR (R128). -/
def execProtClear (h : ReqHead) (a : ClearArgs) (s : State) : Host.Outcome State Fault Refusal :=
  .next (sendRequest h (reqProtClear a) s)

/-- PROT_QUERY (R130). -/
def execProtQuery (h : ReqHead) (page : Nat) (s : State) : Host.Outcome State Fault Refusal :=
  .next (sendRequest h (reqProtQuery page) s)

/-- SAMPLING_TIMER: all six inputs are sampled (R113). -/
def execSamplingTimer (x : SensorSamples) (s : State) : Host.Outcome State Fault Refusal :=
  .next (sampleAll x s)

/-- READING_UPDATE: a reading that is due is taken, handed to FNC and judged (R113, R118, R122, R134). -/
def execReadingUpdate (i : Sensor) (s : State) : Host.Outcome State Fault Refusal :=
  match (s.meas i).due with
  | some v => .next (judgeUpdate i (fanUpdate i (takeReading i v s)))
  | none => .next s

/-- DERATE_STEP: the derate timer of a package expires (R121). -/
def execDerateStep (p : PkgId) (s : State) : Host.Outcome State Fault Refusal :=
  .next (derateStep p s)

end Sys2Proof.Machine
end

