-- ==== Sys2Proof/Machine/TunerRows.lean ====
section
/-! DEFINITION. The meanings of the commands: the requests and events of the tuner. -/
namespace Sys2Proof.Machine

/-- TUNER_TUNE (R148). -/
def execTunerTune (h : ReqHead) (band : Nat) (channel : Nat) (s : State) : Host.Outcome State Fault Refusal :=
  .next (sendRequest h (reqTunerTune h band channel) s)

/-- TUNER_SEEK (R150). -/
def execTunerSeek (h : ReqHead) (dir : Nat) (s : State) : Host.Outcome State Fault Refusal :=
  .next (sendRequest h (reqTunerSeek h dir) s)

/-- TUNER_SCAN (R152, R153). -/
def execTunerScan (h : ReqHead) (band : Nat) (first : Nat) (last : Nat) (force : Bool) (s : State) : Host.Outcome State Fault Refusal :=
  .next (sendRequest h (reqTunerScan h band first last force) s)

/-- TUNER_STOP (R156). -/
def execTunerStop (h : ReqHead) (s : State) : Host.Outcome State Fault Refusal :=
  .next (sendRequest h (reqTunerStop h) s)

/-- PRESET_STORE (R157). -/
def execPresetStore (h : ReqHead) (s : State) : Host.Outcome State Fault Refusal :=
  .next (sendRequest h (reqPresetStore h) s)

/-- PRESET_RECALL (R158). -/
def execPresetRecall (h : ReqHead) (s : State) : Host.Outcome State Fault Refusal :=
  .next (sendRequest h (reqPresetRecall h) s)

/-- PRESET_READ (R159). -/
def execPresetRead (h : ReqHead) (page : Nat) (s : State) : Host.Outcome State Fault Refusal :=
  .next (sendRequest h (reqPresetRead h page) s)

/-- PRESET_UPLOAD (R159). -/
def execPresetUpload (h : ReqHead) (list : List UploadEntry) (s : State) : Host.Outcome State Fault Refusal :=
  .next (sendRequest h (reqPresetUpload list) s)

/-- STATION_READ (R155). -/
def execStationRead (h : ReqHead) (page : Nat) (index : Nat) (s : State) : Host.Outcome State Fault Refusal :=
  .next (sendRequest h (reqStationRead page index) s)

/-- TUNER_QUERY (R165). -/
def execTunerQuery (h : ReqHead) (page : Nat) (s : State) : Host.Outcome State Fault Refusal :=
  .next (sendRequest h (reqTunerQuery page) s)

/-- TUNER_REGION (R162). -/
def execTunerRegion (h : ReqHead) (step : Nat) (raster : Nat) (s : State) : Host.Outcome State Fault Refusal :=
  .next (sendRequest h (reqTunerRegion step raster) s)

/-- TUNER_THRESHOLDS (R163). -/
def execTunerThresholds (h : ReqHead) (margin : Nat) (afMargin : Nat) (s : State) : Host.Outcome State Fault Refusal :=
  .next (sendRequest h (reqTunerThresholds margin afMargin) s)

/-- DWELL_END: a dwell ends with its measurement (R147 to R154, R156, R161). -/
def execDwellEnd (quality : Nat) (pilot : Bool) (s : State) : Host.Outcome State Fault Refusal :=
  .next (endDwell quality pilot s)

/-- QUALITY_MONITOR: the monitor measures the channel of a tuner in IDLE (R147, R160). -/
def execQualityMonitor (quality : Nat) (pilot : Bool) (s : State) : Host.Outcome State Fault Refusal :=
  .next (if s.tun.state = .idle then monitorMeasure quality pilot s else s)

/-- WEAK_SIGNAL_EXPIRY: the weak-signal timer runs out (R160, R161). -/
def execWeakSignalExpiry (s : State) : Host.Outcome State Fault Refusal :=
  .next (if s.tun.weak.isSome then weakExpiry s else s)

end Sys2Proof.Machine
end

