-- ==== Sys2Proof/Machine/ZoneRows.lean ====
section
/-! DEFINITION. The meanings of the commands: the zone requests and the events of the zones. -/
namespace Sys2Proof.Machine

/-- ZONE_POWER on (R3). -/
def execZonePowerOn (h : ReqHead) (s : State) : Host.Outcome State Fault Refusal :=
  .next (sendRequest h (reqZonePowerOn h) s)

/-- ZONE_POWER standby (R12). -/
def execZonePowerStandby (h : ReqHead) (s : State) : Host.Outcome State Fault Refusal :=
  .next (sendRequest h (reqZonePowerStandby h) s)

/-- ZONE_POWER toggle (R3). -/
def execZonePowerToggle (h : ReqHead) (s : State) : Host.Outcome State Fault Refusal :=
  .next (sendRequest h (reqZonePowerToggle h) s)

/-- ZONE_SOURCE (R7 to R9). -/
def execZoneSource (h : ReqHead) (id : Nat) (s : State) : Host.Outcome State Fault Refusal :=
  .next (sendRequest h (reqZoneSource h id) s)

/-- ZONE_VOLUME (R15). -/
def execZoneVolume (h : ReqHead) (v : VolumeArg) (s : State) : Host.Outcome State Fault Refusal :=
  .next (sendRequest h (reqZoneVolume h v) s)

/-- ZONE_MUTE (R16). -/
def execZoneMute (h : ReqHead) (m : MuteArg) (s : State) : Host.Outcome State Fault Refusal :=
  .next (sendRequest h (reqZoneMute h m) s)

/-- ZONE_SLEEP (R21). -/
def execZoneSleep (h : ReqHead) (minutes : Nat) (s : State) : Host.Outcome State Fault Refusal :=
  .next (sendRequest h (reqZoneSleep h minutes) s)

/-- ZONE_ANNOUNCE (R17). -/
def execZoneAnnounce (h : ReqHead) (follow : Bool) (level : Int) (s : State) : Host.Outcome State Fault Refusal :=
  .next (sendRequest h (reqZoneAnnounce h follow level) s)

/-- ZONE_QUERY (R20). -/
def execZoneQuery (h : ReqHead) (page : Nat) (s : State) : Host.Outcome State Fault Refusal :=
  .next (sendRequest h (reqZoneQuery h page) s)

/-- ZONE_LIMITS (R18). -/
def execZoneLimits (h : ReqHead) (ceiling : Int) (ramp : Nat) (snap : Bool) (s : State) : Host.Outcome State Fault Refusal :=
  .next (sendRequest h (reqZoneLimits h ceiling ramp snap) s)

/-- ZONE_SOURCE_RING (R19). -/
def execZoneSourceRing (h : ReqHead) (ids : List Nat) (s : State) : Host.Outcome State Fault Refusal :=
  .next (sendRequest h (reqZoneSourceRing h ids) s)

/-- SLEEP_MINUTE: the prescaler of a loaded sleep wraps (R22). -/
def execSleepMinute (z : ZoneId) (s : State) : Host.Outcome State Fault Refusal :=
  .next (sleepMinute z s)

/-- SLEEP_EXPIRY: the last minute of a loaded sleep is over (R22). -/
def execSleepExpiry (z : ZoneId) (s : State) : Host.Outcome State Fault Refusal :=
  match (s.zone z).sleep with
  | some k => .next (if k.minutes ≤ 1 then sleepExpire z s else s)
  | none => .next s

/-- DRAIN_END: the drain of a zone whose outputs LVU has reported at the floor ends (R10, R78). -/
def execDrainEnd (z : ZoneId) (s : State) : Host.Outcome State Fault Refusal :=
  .next (if (s.zone z).state = .switching ∧ s.zc.floorReport.has z = true then endDrainOf z s else s)

end Sys2Proof.Machine
end

