-- ==== Sys2Proof/Machine/Dispatch.lean ====
section
/-! DEFINITION. The dispatch of commands to their meanings, one arm per command of spec/opcode_table.json. -/
namespace Sys2Proof.Machine

def exec (i : Instr) (s : State) : Host.Outcome State Fault Refusal :=
  match i with
  | .powerOnReset => Sys2Proof.Machine.execPowerOnReset s
  | .zonePowerOn h => Sys2Proof.Machine.execZonePowerOn h s
  | .zonePowerStandby h => Sys2Proof.Machine.execZonePowerStandby h s
  | .zonePowerToggle h => Sys2Proof.Machine.execZonePowerToggle h s
  | .zoneSource h id => Sys2Proof.Machine.execZoneSource h id s
  | .zoneVolume h v => Sys2Proof.Machine.execZoneVolume h v s
  | .zoneMute h m => Sys2Proof.Machine.execZoneMute h m s
  | .zoneSleep h minutes => Sys2Proof.Machine.execZoneSleep h minutes s
  | .zoneAnnounce h follow level => Sys2Proof.Machine.execZoneAnnounce h follow level s
  | .zoneQuery h page => Sys2Proof.Machine.execZoneQuery h page s
  | .zoneLimits h ceiling ramp snap => Sys2Proof.Machine.execZoneLimits h ceiling ramp snap s
  | .zoneSourceRing h ids => Sys2Proof.Machine.execZoneSourceRing h ids s
  | .sourceTrim h trim => Sys2Proof.Machine.execSourceTrim h trim s
  | .sourceQuery h page => Sys2Proof.Machine.execSourceQuery h page s
  | .mainMode h mode => Sys2Proof.Machine.execMainMode h mode s
  | .dialogue h lift => Sys2Proof.Machine.execDialogue h lift s
  | .bassConfig h a => Sys2Proof.Machine.execBassConfig h a s
  | .downmixConfig h a => Sys2Proof.Machine.execDownmixConfig h a s
  | .engineQuery h page => Sys2Proof.Machine.execEngineQuery h page s
  | .channelTrim h trim => Sys2Proof.Machine.execChannelTrim h trim s
  | .levelQuery h page => Sys2Proof.Machine.execLevelQuery h page s
  | .ampAssign h list => Sys2Proof.Machine.execAmpAssign h list s
  | .lineCheck h => Sys2Proof.Machine.execLineCheck h s
  | .ampQuery h page => Sys2Proof.Machine.execAmpQuery h page s
  | .protLimits h a => Sys2Proof.Machine.execProtLimits h a s
  | .clipGuard h limit => Sys2Proof.Machine.execClipGuard h limit s
  | .protLock h => Sys2Proof.Machine.execProtLock h s
  | .protClear h a => Sys2Proof.Machine.execProtClear h a s
  | .protQuery h page => Sys2Proof.Machine.execProtQuery h page s
  | .fanCurve h a => Sys2Proof.Machine.execFanCurve h a s
  | .fanQuery h page => Sys2Proof.Machine.execFanQuery h page s
  | .tunerTune h band channel => Sys2Proof.Machine.execTunerTune h band channel s
  | .tunerSeek h dir => Sys2Proof.Machine.execTunerSeek h dir s
  | .tunerScan h band first last force => Sys2Proof.Machine.execTunerScan h band first last force s
  | .tunerStop h => Sys2Proof.Machine.execTunerStop h s
  | .presetStore h => Sys2Proof.Machine.execPresetStore h s
  | .presetRecall h => Sys2Proof.Machine.execPresetRecall h s
  | .presetRead h page => Sys2Proof.Machine.execPresetRead h page s
  | .presetUpload h list => Sys2Proof.Machine.execPresetUpload h list s
  | .stationRead h page index => Sys2Proof.Machine.execStationRead h page index s
  | .tunerQuery h page => Sys2Proof.Machine.execTunerQuery h page s
  | .tunerRegion h step raster => Sys2Proof.Machine.execTunerRegion h step raster s
  | .tunerThresholds h margin afMargin => Sys2Proof.Machine.execTunerThresholds h margin afMargin s
  | .announceFilter h home mask acceptAll => Sys2Proof.Machine.execAnnounceFilter h home mask acceptAll s
  | .stationDataQuery h page => Sys2Proof.Machine.execStationDataQuery h page s
  | .linkPermit h who perms => Sys2Proof.Machine.execLinkPermit h who perms s
  | .noticeMask h classes attention => Sys2Proof.Machine.execNoticeMask h classes attention s
  | .softReset h => Sys2Proof.Machine.execSoftReset h s
  | .softResetDone => Sys2Proof.Machine.execSoftResetDone s
  | .keypadBind h keypad zone => Sys2Proof.Machine.execKeypadBind h keypad zone s
  | .keymapLoad h start count list => Sys2Proof.Machine.execKeymapLoad h start count list s
  | .keypadQuery h page => Sys2Proof.Machine.execKeypadQuery h page s
  | .unknownRequestKind h kind => Sys2Proof.Machine.execUnknownRequestKind h kind s
  | .continuation h => Sys2Proof.Machine.execContinuation h s
  | .writeSlot l arg bytes busyAtHeader => Sys2Proof.Machine.execWriteSlot l arg bytes busyAtHeader s
  | .readSlot l arg => Sys2Proof.Machine.execReadSlot l arg s
  | .readNotices l arg part => Sys2Proof.Machine.execReadNotices l arg part s
  | .readLink l arg => Sys2Proof.Machine.execReadLink l arg s
  | .linkReset l arg => Sys2Proof.Machine.execLinkReset l arg s
  | .badFrame l code arg => Sys2Proof.Machine.execBadFrame l code arg s
  | .frameTruncated l => Sys2Proof.Machine.execFrameTruncated l s
  | .frameStall l f => Sys2Proof.Machine.execFrameStall l f s
  | .keyMessage b0 b1 => Sys2Proof.Machine.execKeyMessage b0 b1 s
  | .select b0 => Sys2Proof.Machine.execSelect b0 s
  | .malformedKeypadWrite bytes => Sys2Proof.Machine.execMalformedKeypadWrite bytes s
  | .readbackRead count => Sys2Proof.Machine.execReadbackRead count s
  | .keyPress => Sys2Proof.Machine.execKeyPress s
  | .keyRepeat => Sys2Proof.Machine.execKeyRepeat s
  | .keyRelease => Sys2Proof.Machine.execKeyRelease s
  | .sleepMinute z => Sys2Proof.Machine.execSleepMinute z s
  | .sleepExpiry z => Sys2Proof.Machine.execSleepExpiry z s
  | .rampStep => Sys2Proof.Machine.execRampStep s
  | .drainEnd z => Sys2Proof.Machine.execDrainEnd z s
  | .channelFloorIdle c => Sys2Proof.Machine.execChannelFloorIdle c s
  | .reassignmentSwap => Sys2Proof.Machine.execReassignmentSwap s
  | .lockAchieved c hz => Sys2Proof.Machine.execLockAchieved c hz s
  | .attemptWindowExpiry c => Sys2Proof.Machine.execAttemptWindowExpiry c s
  | .backoffExpiry c => Sys2Proof.Machine.execBackoffExpiry c s
  | .lockLost c => Sys2Proof.Machine.execLockLost c s
  | .activityDetectorArm c => Sys2Proof.Machine.execActivityDetectorArm c s
  | .activity c => Sys2Proof.Machine.execActivity c s
  | .syncTimerExpiry c => Sys2Proof.Machine.execSyncTimerExpiry c s
  | .laneTimerExpiry => Sys2Proof.Machine.execLaneTimerExpiry s
  | .codedFrame c f => Sys2Proof.Machine.execCodedFrame c f s
  | .loadEnd e => Sys2Proof.Machine.execLoadEnd e s
  | .clipWindowEnd z => Sys2Proof.Machine.execClipWindowEnd z s
  | .samplingTimer x => Sys2Proof.Machine.execSamplingTimer x s
  | .readingUpdate x => Sys2Proof.Machine.execReadingUpdate x s
  | .derateStep p => Sys2Proof.Machine.execDerateStep p s
  | .readyAsserted p => Sys2Proof.Machine.execReadyAsserted p s
  | .readyWindowExpiry p => Sys2Proof.Machine.execReadyWindowExpiry p s
  | .packageRetryExpiry p => Sys2Proof.Machine.execPackageRetryExpiry p s
  | .readyLost p => Sys2Proof.Machine.execReadyLost p s
  | .overcurrent c elapsed => Sys2Proof.Machine.execOvercurrent c elapsed s
  | .channelRetryExpiry c => Sys2Proof.Machine.execChannelRetryExpiry c s
  | .overcurrentFreeRun c => Sys2Proof.Machine.execOvercurrentFreeRun c s
  | .lineCheckCrossing elapsed => Sys2Proof.Machine.execLineCheckCrossing elapsed s
  | .lineCheckCounterFull => Sys2Proof.Machine.execLineCheckCounterFull s
  | .dutyStep => Sys2Proof.Machine.execDutyStep s
  | .spinUpExpiry f => Sys2Proof.Machine.execSpinUpExpiry f s
  | .tachUpdate f => Sys2Proof.Machine.execTachUpdate f s
  | .tachEdge f periods => Sys2Proof.Machine.execTachEdge f periods s
  | .guardEnd f => Sys2Proof.Machine.execGuardEnd f s
  | .tachCountLimit f => Sys2Proof.Machine.execTachCountLimit f s
  | .dwellEnd quality pilot => Sys2Proof.Machine.execDwellEnd quality pilot s
  | .qualityMonitor quality pilot => Sys2Proof.Machine.execQualityMonitor quality pilot s
  | .weakSignalExpiry => Sys2Proof.Machine.execWeakSignalExpiry s
  | .subcarrierWord w => Sys2Proof.Machine.execSubcarrierWord w s
  | .announceHoldExpiry => Sys2Proof.Machine.execAnnounceHoldExpiry s
  | .samplePeriod src x => Sys2Proof.Machine.execSamplePeriod src x s
  | .laneActivity lane on => Sys2Proof.Machine.execLaneActivity lane on s

end Sys2Proof.Machine
end

