-- ==== Sys2Proof/WellFormed.lean ====
section
/-! DEFINITION. When a command is well formed: every operand lies in the range its field can carry.

A request's operand takes the fewest whole bytes that hold its range (R197), so a value no byte of its width can hold is ill formed.
A value its field can carry and its rule refuses (a source id 12, a ceiling +40) is well formed: the rule answers it.
-/
namespace Sys2Proof

/-- Values one byte, two bytes hold. -/
def fits8 (n : Nat) : Bool := decide (n < 256)
def fits16 (n : Nat) : Bool := decide (n < 65536)

/-- Signed values one byte, two bytes hold. -/
def fitsS8 (i : Int) : Bool := decide (-128 ≤ i ∧ i ≤ 127)
def fitsS16 (i : Int) : Bool := decide (-32768 ≤ i ∧ i ≤ 32767)

/-- A sample of 24 bits (section 6.1). -/
def fitsSample (i : Int) : Bool := decide (-8388608 ≤ i ∧ i ≤ 8388607)

/-- A request occupies 1 to 8 slots of its ring (R182, R188). -/
def ReqHead.wf (h : ReqHead) : Bool := decide (1 ≤ h.slots ∧ h.slots ≤ 8)

def VolumeArg.wf : VolumeArg → Bool
  | .absolute v => fitsS16 v
  | .relative d => fitsS16 d

def BassArgs.wf (a : BassArgs) : Bool :=
  fits8 a.front && fits8 a.centre && fits8 a.surround && fits8 a.back && fits8 a.height && fits8 a.crossover

def DownmixArgs.wf (a : DownmixArgs) : Bool := fits8 a.c && fits8 a.s && fits8 a.b && fits8 a.h

/-- A zone byte 0xFF means unassigned, so a zone code is below 255 (R197). -/
def AssignEntry.wf (e : AssignEntry) : Bool :=
  match e.target with
  | none => fits8 e.channel
  | some (z, r) => fits8 e.channel && decide (z < 255) && fits8 r

def Limits.wf (a : Limits) : Bool :=
  fits16 a.pkgWarn && fits16 a.pkgTrip && fits8 a.pkgHyst && fits16 a.hsWarn && fits16 a.hsTrip && fits8 a.hsHyst &&
    fits16 a.railLow && fits16 a.railHigh && fits8 a.railHyst && fits8 a.tempN && fits8 a.railN

def FanSettings.wf (a : FanSettings) : Bool :=
  fits16 a.t1 && fits8 a.d1 && fits16 a.t2 && fits8 a.d2 && fits16 a.t3 && fits8 a.rampRate && fits16 a.spinUpTime &&
    fits8 a.edges && fits8 a.guard && fits16 a.period && fits16 a.tachLimit

/-- The length of an optional name is counted in one byte (R197). -/
def nameFits : Option (List Byte) → Bool
  | none => true
  | some l => fits8 l.length

def UploadEntry.wf (e : UploadEntry) : Bool :=
  match e.content with
  | none => fits8 e.index
  | some (b, f, n) => fits8 e.index && fits8 b && fits16 f && nameFits n

def KeyEntryArg.wf (e : KeyEntryArg) : Bool := fits8 e.action && fits8 e.arg

def RoleSamples.wf (x : RoleSamples) : Bool :=
  fitsSample x.fl && fitsSample x.fr && fitsSample x.c && fitsSample x.lfe && fitsSample x.sl && fitsSample x.sr &&
    fitsSample x.sbl && fitsSample x.sbr && fitsSample x.hl && fitsSample x.hr

/-- Samples of the ranges of R112. -/
def SensorSamples.wf (x : SensorSamples) : Bool :=
  decide (x.t0 ≤ 511 ∧ x.t1 ≤ 511 ∧ x.t2 ≤ 511 ∧ x.t3 ≤ 511 ∧ x.th ≤ 511 ∧ x.vr ≤ 1023)

/-- A kind byte that names a request of the catalogue, or a continuation (R197). -/
def namedKind (kind : Byte) : Bool := decide (1 ≤ kind.toNat ∧ kind.toNat ≤ 0x30) || kind == 0xFF

/-- The check of every command. -/
def Instr.wf : Instr → Bool
  | .powerOnReset => true
  | .zonePowerOn h | .zonePowerStandby h | .zonePowerToggle h => h.wf
  | .zoneSource h id => h.wf && fits8 id
  | .zoneVolume h v => h.wf && v.wf
  | .zoneMute h _ => h.wf
  | .zoneSleep h n => h.wf && fits8 n
  | .zoneAnnounce h _ level => h.wf && fitsS16 level
  | .zoneQuery h p => h.wf && fits8 p
  | .zoneLimits h c r _ => h.wf && fitsS8 c && fits8 r
  | .zoneSourceRing h l => h.wf && fits8 l.length && l.all fits8
  | .sourceTrim h v => h.wf && fitsS8 v
  | .sourceQuery h p => h.wf && fits8 p
  | .mainMode h m => h.wf && fits8 m
  | .dialogue h v => h.wf && decide (0 ≤ v ∧ v ≤ 255)
  | .bassConfig h a => h.wf && a.wf
  | .downmixConfig h a => h.wf && a.wf
  | .engineQuery h p => h.wf && fits8 p
  | .channelTrim h v => h.wf && fitsS8 v
  | .levelQuery h p => h.wf && fits8 p
  | .ampAssign h l => h.wf && fits8 l.length && l.all AssignEntry.wf
  | .lineCheck h => h.wf
  | .ampQuery h p => h.wf && fits8 p
  | .protLimits h a => h.wf && a.wf
  | .clipGuard h n => h.wf && fits16 n
  | .protLock h => h.wf
  | .protClear h _ => h.wf
  | .protQuery h p => h.wf && fits8 p
  | .fanCurve h a => h.wf && a.wf
  | .fanQuery h p => h.wf && fits8 p
  | .tunerTune h b c => h.wf && fits8 b && fits16 c
  | .tunerSeek h d => h.wf && fits8 d
  | .tunerScan h b f l _ => h.wf && fits8 b && fits16 f && fits16 l
  | .tunerStop h | .presetStore h | .presetRecall h => h.wf
  | .presetRead h p => h.wf && fits8 p
  | .presetUpload h l => h.wf && decide (l.length = h.slots) && l.all UploadEntry.wf
  | .stationRead h p i => h.wf && fits8 p && fits8 i
  | .tunerQuery h p => h.wf && fits8 p
  | .tunerRegion h st r => h.wf && fits8 st && fits8 r
  | .tunerThresholds h m a => h.wf && fits8 m && fits8 a
  | .announceFilter h _ _ _ => h.wf
  | .stationDataQuery h p => h.wf && fits8 p
  | .linkPermit h w _ => h.wf && fits8 w
  | .noticeMask h _ _ => h.wf
  | .softReset h => h.wf
  | .softResetDone => true
  | .keypadBind h i z => h.wf && fits8 i && fits8 z
  | .keymapLoad h i n l => h.wf && fits8 i && fits8 n && decide (l.length = n) && l.all KeyEntryArg.wf
  | .keypadQuery h p => h.wf && fits8 p
  | .unknownRequestKind h k => decide (h.slots = 1) && !namedKind k
  | .continuation h => decide (h.slots = 1)
  | .writeSlot _ _ b _ => decide (b.length ≤ 16)
  | .readSlot _ _ | .readLink _ _ | .linkReset _ _ => true
  | .readNotices _ _ p => match p with
    | .whole n | .shift n => decide (n ≤ 130)
    | .header | .finish => true
  | .badFrame _ code arg => match code.toNat with
    | 1 => decide (arg.toNat / 8 % 16 ≠ 0)
    | 2 => decide (8 ≤ arg.toNat)
    | 3 => decide (arg.toNat = 0 ∨ 8 < arg.toNat)
    | 4 | 5 => decide (arg ≠ 0)
    | _ => true
  | .frameTruncated _ => true
  | .frameStall _ f => match f with
    | .header | .other | .reading => true
    | .readNotices _ n => decide (n ≤ 130)
  | .keyMessage b0 _ => decide (b0.toNat / 8 = 0)
  | .select b0 => decide (b0.toNat / 8 = 16)
  | .malformedKeypadWrite l => match l with
    | [] => false
    | [b] => decide (b.toNat / 8 ≠ 16)
    | [b, _] => decide (b.toNat / 8 ≠ 0)
    | _ :: _ :: _ :: _ => true
  | .readbackRead _ => true
  | .keyPress | .keyRepeat | .keyRelease => true
  | .sleepMinute _ | .sleepExpiry _ | .rampStep | .drainEnd _ | .channelFloorIdle _ | .reassignmentSwap => true
  | .lockAchieved _ _ | .attemptWindowExpiry _ | .backoffExpiry _ | .lockLost _ | .activityDetectorArm _ => true
  | .activity _ | .syncTimerExpiry _ | .laneTimerExpiry => true
  | .codedFrame _ f => decide (f.received ≤ f.declared)
  | .loadEnd _ | .clipWindowEnd _ => true
  | .samplingTimer x => x.wf
  | .readingUpdate _ | .derateStep _ | .readyAsserted _ | .readyWindowExpiry _ | .packageRetryExpiry _ => true
  | .readyLost _ => true
  | .overcurrent _ n => decide (n ≤ 1023)
  | .channelRetryExpiry _ | .overcurrentFreeRun _ => true
  | .lineCheckCrossing n => decide (n ≤ 1023)
  | .lineCheckCounterFull | .dutyStep | .spinUpExpiry _ | .tachUpdate _ => true
  | .tachEdge _ n => fits16 n
  | .guardEnd _ | .tachCountLimit _ => true
  | .dwellEnd q _ | .qualityMonitor q _ => decide (q ≤ 100)
  | .weakSignalExpiry => true
  | .subcarrierWord _ => true
  | .announceHoldExpiry => true
  | .samplePeriod _ x => x.wf
  | .laneActivity _ _ => true

end Sys2Proof
end

