-- ==== Sys2Proof/Safety.lean ====
section
/-! DEFINITION. The terms in which statements about the part are made: when a request arrives and is taken, what its answer writes, what notices an event posts, and the settings of the part. -/
namespace Sys2Proof.Machine

/-! ## A request that arrives at its link's take pointer -/

/-- The slot behind a request's slots is not QUEUED, so the request is the only one taken. -/
def nextIdle (s : State) (h : ReqHead) : Bool :=
  ((s.link h.link).slots.get (slotAfter (s.link h.link).take h.slots)).phase != .queued

/-- A request of a kind arrives and passes LNK's checks (R186, R188): its slots are the link's to write, no more than the kind's chain maximum, the first failing check is none, and nothing waits behind it. -/
def arrives (h : ReqHead) (kind : Byte) (s : State) : Bool :=
  ringReady s h && nextIdle s h &&
    match catalogue kind with
    | none => false
    | some line => decide (h.slots ≤ line.chain) && (checkFails s h line).isNone

/-! ## Answers and notices -/

/-- The slots of a request once it has completed: the result in the first, a status and the tag in each other (R187, R188). -/
def answeredSlots (r : LinkRec) (h : ReqHead) (kind : Byte) (st rest : Status) (page : Byte) (data : List Byte) : Tab 8 Slot :=
  (List.range h.slots).foldl
    (fun t k => t.set (slotAfter r.take k)
      ⟨.done, if k = 0 then resultRecord kind st h.tag h.target page data else resultRecord continuationKind rest h.tag 0 0 []⟩)
    r.slots

/-- A state whose link has answered the request at its take pointer: the slots are DONE, the pointer stands behind them, and a REQUEST_DONE notice is queued if the request asked for one. -/
def State.answerAs (s : State) (h : ReqHead) (kind : Byte) (st rest : Status) (page : Byte) (data : List Byte) : State :=
  s.updLink h.link (fun r =>
    let q := if h.notify then r.accept (.requestDone r.take kind h.tag st) h.link.origin else r
    { q with slots := answeredSlots r h kind st rest page data, take := slotAfter r.take h.slots })

/-- The same with the continuation slots completing OK (R188). -/
def State.answer (s : State) (h : ReqHead) (kind : Byte) (st : Status) (page : Byte) (data : List Byte) : State :=
  s.answerAs h kind st .ok page data

/-- A state that has answered a query with one page of its result (R196). -/
def State.answerPaged (s : State) (h : ReqHead) (kind : Byte) (data : List Byte) (page : Nat) : State :=
  if page * 11 < data.length ∨ page = 0 then
    s.answer h kind .ok (BitVec.ofNat 8 (if data.length ≤ (page + 1) * 11 then page + 128 else page)) ((data.drop (11 * page)).take 11)
  else s.answer h kind .badArgument 0 []

/-- A state with a long request taken at its link's take pointer: its slots are IN_FLIGHT with the records written, and the pointer stands behind them (R185 to R187). -/
def State.takenLong (s : State) (h : ReqHead) (kind : Byte) (data : List Byte) : State :=
  s.updLink h.link (fun r =>
    { r with
      slots := (List.range h.slots).foldl (fun t k => t.set (slotAfter r.take k) ⟨.inFlight, requestRecord h kind data k⟩) r.slots
      take := slotAfter r.take h.slots })

/-- The slot that was at the take pointer of `s` holds the request's result in `t`, and the pointer has moved past the request. -/
def hasAnswer (h : ReqHead) (kind : Byte) (st : Status) (data : List Byte) (s t : State) : Bool :=
  (t.link h.link).slots.get (s.link h.link).take == ⟨.done, resultRecord kind st h.tag h.target 0 data⟩ &&
    (t.link h.link).take == slotAfter (s.link h.link).take h.slots

/-- The slot that was at the take pointer of `s` is IN_FLIGHT in `t`, and the pointer has moved past the request. -/
def isInFlight (h : ReqHead) (s t : State) : Bool :=
  ((t.link h.link).slots.get (s.link h.link).take).phase == .inFlight &&
    (t.link h.link).take == slotAfter (s.link h.link).take h.slots

/-- A state that has posted some notices, the first of the list first. -/
def State.posted (s : State) (l : List (NoticeBody × Origin)) : State := l.foldl (fun t n => t.post n.1 n.2) s

/-- A flag set at an event, with its notice if it was clear (R126). -/
def State.flagged (s : State) (f : FlagId) : State :=
  if s.flag f then s else (s.putFlag f true).posted [(.flagSet f, .part)]

/-! ## Requests in flight -/

/-- The tickets of the long requests that their owners hold: line check, reassignment, tuner, soft reset (R187). -/
def tickets (s : State) : List Ticket :=
  (s.acc.check.map LineCheck.ticket).toList ++ (s.acc.reassign.map Reassign.ticket).toList ++ s.tun.ticket.toList ++
    s.lnk.resetting.toList

/-- Those whose link has not been reset since the take: their completion will write their slots (R187). -/
def heldTickets (s : State) : List Ticket := (tickets s).filter (fun k => (s.link k.link).gen == k.gen)

/-- The slots a ticket completes, with their link (R187, R188). -/
def Ticket.places (k : Ticket) : List (Link × Fin 8) := (slotsFrom k.slot (max 1 k.slots)).map (fun i => (k.link, i))

/-- Every held ticket names slots that are IN_FLIGHT, and no two name the same (R186, R187). -/
def SlotsHeld (s : State) : Prop :=
  ((heldTickets s).flatMap Ticket.places).Nodup ∧
    ∀ x, x ∈ (heldTickets s).flatMap Ticket.places → ((s.link x.1).slots.get x.2).phase = .inFlight

/-- A state in which the first slots of a request have been written and handed (R185, R188). -/
def State.handed (s : State) (h : ReqHead) (q : Request) (m : Nat) : State :=
  s.updLink h.link (fun r =>
    { r with slots := (List.range m).foldl (fun t k => t.set (slotAfter r.take k) ⟨.queued, requestRecord h q.kind q.data k⟩) r.slots })

/-! ## Zones as R4 judges them -/

/-- A zone stands as R4 judges it: PLAYING where no condition is unmet, else ACQUIRING with the first unmet one as its reason. -/
def ZoneRec.judged (r : ZoneRec) (unmet : Option WaitReason) : Prop :=
  match unmet with
  | none => r.state = .playing
  | some w => r.state = .acquiring ∧ r.wait = some w

/-- No zone stands in ACQUIRING with reason CONVERTER that has its pair: a granted pair has its zone judged in the same event (R24, R25; the model's choice, log entries 9 and 26). -/
def GrantsJudged (s : State) : Prop :=
  ∀ z, (s.zone z).state = .acquiring → (s.zone z).wait = some .converter → (s.zone z).pair = none

/-! ## Engines and their consumers -/

/-- What the engines hold of each zone agrees with the zone's record: a consumer names its engine, a zone on the engine wait list names none, and a zone that names an engine or waits for one is out of STANDBY and, on an analog source, has its converter pair (R4, R49, R51, R52). -/
def ConsumersAgree (s : State) : Prop :=
  ∀ z, (∀ e, (s.eng e).consumers.has z = true → (s.zone z).engine = some e) ∧
    (s.de.wait.contains z = true → (s.zone z).engine = none) ∧
    ((s.zone z).engine.isSome = true ∨ s.de.wait.contains z = true →
      (s.zone z).state ≠ .standby ∧ ((s.zone z).source.kind = .analog → (s.zone z).pair.isSome = true))

/-! ## Zones that leave PLAYING -/

/-- Whether a zone's leaving PLAYING sets a channel fading: it carries the zone in ACTIVE, or in ENABLING with its package not LATCHED (R91). -/
def fades (s : State) (z : ZoneId) (c : ChanId) : Bool :=
  (s.chan c).assign.map Assign.zone == some z &&
    ((s.chan c).state == .active || ((s.chan c).state == .enabling && (s.pkg c.pkg).power != .latched))

/-- A state in which LVU's earlier floor reports no longer speak for a zone, nor for the channels that its leaving PLAYING has set fading (R78, R91). -/
def State.fading (t s : State) (z : ZoneId) : State :=
  { t with
    zc := { t.zc with floorReport := t.zc.floorReport.put z false }
    acc := { t.acc with floorReport := ⟨ChanId.all.map (fun c => t.acc.floorReport.get c.idx && !fades s z c), rfl⟩ } }

/-! ## Level records -/

/-- A state whose level records are given output by output. -/
def State.withLevels (s : State) (f : OutId → LevelRec) : State :=
  { s with lvu := { s.lvu with levels := ⟨OutId.all.map f, rfl⟩ } }

/-- A level record at the floor, its clip count kept (R76). -/
def LevelRec.floored (r : LevelRec) : LevelRec := { r with target := -160, level := -160, gain := 0 }

/-- The level record of an output after a bound cut, if its applied level stands above its limit level (R73). -/
def cutLevel (s : State) (o : OutId) : LevelRec :=
  match limitLevel s o with
  | none => s.lev o
  | some m => if m < (s.lev o).level then { s.lev o with level := m, gain := if outOpen s o then gainEntry m else 0 } else s.lev o

/-! ## Settings -/

/-- What requests set in a zone record. -/
structure ZoneSettings where
  volume : Int
  mute : Bool
  ceiling : Int
  ramp : Nat
  snapOnMute : Bool
  follow : Bool
  minLevel : Int
  ring : List Src
  deriving DecidableEq, Repr

/-- Every setting of the part: what no event and no cascade of a request changes, but the requests that set it. -/
structure Settings where
  zones : List ZoneSettings
  mode : ListenMode
  lift : Int
  trims : List Int
  mapper : Mapper
  lineTrims : Tab 6 Int
  channels : List (Option Assign × Int)
  limits : Limits
  lock : Bool
  clipLimits : List Nat
  fans : List FanSettings
  region : Nat × Nat
  margins : Nat × Nat
  presets : Tab 40 (Option Preset)
  filter : AnnFilter
  perms : Tab 3 PermSet
  masks : List (ClassSet × Bool)
  binding : Tab 8 ZoneId
  keymap : Tab 64 KeyEntry
  deriving DecidableEq, Repr

def ZoneRec.settings (r : ZoneRec) : ZoneSettings :=
  ⟨r.volume, r.mute, r.ceiling, r.ramp, r.snapOnMute, r.follow, r.minLevel, r.ring⟩

/-- The settings of a state; the filter sections of the mapper, which are no setting, are left out. -/
def State.settings (s : State) : Settings where
  zones := s.zc.zones.entries.map ZoneRec.settings
  mode := s.zc.mode
  lift := s.zc.lift
  trims := s.siu.sources.entries.map SourceRec.trim
  mapper := { s.cmap with filters := .replicate 9 .zero }
  lineTrims := s.lvu.lineTrims
  channels := s.acc.channels.entries.map (fun r => (r.assign, r.trim))
  limits := s.tlm.limits
  lock := s.tlm.lock
  clipLimits := s.tlm.guards.entries.map ClipGuard.limit
  fans := s.fnc.fans.entries.map FanRec.set
  region := (s.tun.step, s.tun.raster)
  margins := (s.tun.margin, s.tun.afMargin)
  presets := s.tun.presets
  filter := s.sdd.filter
  perms := s.lnk.perms
  masks := s.lnk.links.entries.map (fun r => (r.mask, r.attention))
  binding := s.kpp.binding
  keymap := s.kpp.keymap

/-! ## Invariants -/

/-- The derates and clip guards stand in their ranges (R121, R123). -/
def TermsInRange (s : State) : Prop :=
  (∀ p, -40 ≤ (s.heat p).derate ∧ (s.heat p).derate ≤ 0) ∧ (∀ z, -12 ≤ (s.guard z).guard ∧ (s.guard z).guard ≤ 0)

/-- No notice queue holds more than sixteen notices (R191). -/
def QueuesBounded (s : State) : Prop := ∀ l, (s.link l).queue.length ≤ 16

/-- Every zone's V and minimum level stand between the floor and its ceiling, and the ceiling in its range (R1, R15, R17, R18). -/
def VolumesInRange (s : State) : Prop :=
  ∀ z, -40 ≤ (s.zone z).ceiling ∧ (s.zone z).ceiling ≤ 36 ∧ -160 ≤ (s.zone z).volume ∧ (s.zone z).volume ≤ (s.zone z).ceiling ∧
    -160 ≤ (s.zone z).minLevel ∧ (s.zone z).minLevel ≤ (s.zone z).ceiling

end Sys2Proof.Machine
end

