-- ==== Sys2Proof/Certificates/Slice0/Obligations.lean ====
section
/-! DEFINITION. The statements about the part.

A request is followed where it arrives at its link's take pointer with nothing waiting behind it (`arrives`); the takes that LNK refuses have a statement of their own.
An equation `exec c s = .next t` with `t` written out says what changes and that nothing else does.
-/

open Sys2Proof Sys2Proof.Machine

/-! ## The queue, the clock and power-on reset -/

/-- A step runs the command at the front of the queue on the state with the queue's rest. -/
def Obligations.StepRunsFrontCommand : Prop :=
  ∀ (c : Instr) (rest : List Instr) (s : State), step { s with pending := c :: rest } = exec c { s with pending := rest }

/-- With no command waiting a millisecond passes: every timer and counter of the part that runs by the millisecond counts and holds at its end until its expiry is taken, and nothing else changes.
The tick is the model's choice (log entry 1); the lengths of the timers are the spec's.
The counts of a line check and of a tach measurement are not kept by the tick: the row that ends them says what has passed (log entry 44). -/
def Obligations.IdleStepLetsAMillisecondPass : Prop :=
  ∀ (s : State), s.pending = [] →
    let down := fun (n : Nat) (t : Option Nat) => t.map (fun k => k - n)
    ∃ t, step s = .next t ∧ t.pending = [] ∧ t.now = s.now + 1 ∧ t.choices = s.choices ∧ t.settings = s.settings ∧
      t.lnk = { s.lnk with links := t.lnk.links } ∧
      (∀ l, t.link l = { s.link l with reading := (s.link l).reading.map (fun k => { k with stall := k.stall - 1 }) }) ∧
      t.kpp = s.kpp ∧ t.cmap = s.cmap ∧
      t.zc = { s.zc with zones := t.zc.zones } ∧
      (∀ z, t.zone z = { s.zone z with
        sleep := (s.zone z).sleep.map (fun k => { k with prescaler := min 59999 (k.prescaler + 1) }) }) ∧
      t.siu = { s.siu with sources := t.siu.sources } ∧
      (∀ x, t.src x = { s.src x with
        seqTimer := down 1 (s.src x).seqTimer, syncTimer := down 1 (s.src x).syncTimer, laneTimer := down 1 (s.src x).laneTimer
        quiet := if (s.src x).lock = .lost then min 100 ((s.src x).quiet + 1) else (s.src x).quiet }) ∧
      t.de = { s.de with engines := t.de.engines } ∧
      (∀ e, t.eng e = { s.eng e with loadTime := down 1 (s.eng e).loadTime }) ∧
      t.lvu = { s.lvu with rampTimer := s.lvu.rampTimer - 1 } ∧
      t.acc = { s.acc with channels := t.acc.channels, packages := t.acc.packages } ∧
      (∀ c, t.chan c = { s.chan c with
        retryWait := down 1 (s.chan c).retryWait
        freeRun := if (s.chan c).state = .active then min 60000 ((s.chan c).freeRun + 1) else (s.chan c).freeRun }) ∧
      (∀ p, t.pkg p = { s.pkg p with timer := down 1 (s.pkg p).timer }) ∧
      t.tlm = { s.tlm with thermal := t.tlm.thermal, samplingTimer := s.tlm.samplingTimer - 1 } ∧
      (∀ p, t.heat p = { s.heat p with timer := (s.heat p).timer - 1 }) ∧
      t.fnc.dutyTimer = s.fnc.dutyTimer - 1 ∧
      (∀ f, t.fan f = { s.fan f with
        spinUp := down 1 (s.fan f).spinUp, tachTimer := (s.fan f).tachTimer - 1
        meas := (s.fan f).meas.map (fun m => { m with guardLeft := down 100 m.guardLeft }) }) ∧
      t.tun = { s.tun with
        dwell := s.tun.dwell.map (fun d => { d with left := d.left - 1 }), weak := down 1 s.tun.weak
        monitor := if s.tun.state = .idle then s.tun.monitor - 1 else s.tun.monitor } ∧
      t.sdd = { s.sdd with ann := { s.sdd.ann with
        time := s.sdd.ann.time.map (fun k => k + 1), hold := down 1 s.sdd.ann.hold } }

/-- Power-on reset sets every zone record as R2's table says, and leaves the converter wait list empty. -/
def Obligations.PowerOnResetZoneTable : Prop :=
  ∀ (s : State), ∃ t, exec .powerOnReset s = .next t ∧ t.zc.convWait = [] ∧ t.zc.mode = .multi ∧ t.zc.lift = 0 ∧
    ∀ z, t.zone z =
      { power := .standby, state := .standby
        source := match z with | .main => .mci | .z2 => .net | .z3 => .tuner
        pending := none, standbyFlag := false, switchOrigin := none, wait := none
        volume := -60, mute := false
        ceiling := match z with | .main => 36 | .z2 => 12 | .z3 => 12
        ramp := 2, snapOnMute := false, sleep := none, follow := false, minLevel := -40, saved := none, engine := none
        pair := none, ring := Src.all, lastOrigin := .part }

/-- Power-on reset sets every block beside the zone table to the values its rules state: sources, engines, the mapper, levels, channels with their assignment, packages, the monitor, the fans, the tuner, the station data, the links and the keypads.
Left out are the fields that are the model's own and those for which no rule states a value; the timers that run from the reset stand at their full periods.
The model's own choice where it rests on log entry 41. -/
def Obligations.PowerOnResetOtherBlocks : Prop :=
  ∀ (s : State), ∃ t, exec .powerOnReset s = .next t ∧
    (∀ x, (t.src x).lock = (if x = .tuner then .locked else .absent) ∧ (t.src x).attempts = 0 ∧ (t.src x).trim = 0 ∧
      (t.src x).format = (if x = .tuner then .pcm2 else .none) ∧ (t.src x).rate = (if x = .tuner then some .r48 else none) ∧
      (t.src x).channels = none ∧ (t.src x).ifRate = none ∧ (t.src x).shortFrames = 0 ∧ (t.src x).run = ⟨0, none⟩ ∧
      (t.src x).listeners = ⟨false, false, false⟩ ∧ (t.src x).engine = none ∧ (t.src x).pair = none ∧
      (t.src x).seqTimer = none ∧ (t.src x).syncTimer = none ∧ (t.src x).laneTimer = none) ∧
    (∀ e, t.eng e = {
      state := .free, bound := none, mode := .decode, loaded := none, consumers := ⟨false, false, false⟩
      roles := ⟨false, false, false, false, false, false, false, false, false, false⟩
      frameErrors := 0, errorRun := 0, lastGood := none, loadTime := none, delivery := (t.eng e).delivery }) ∧
    t.de.wait = [] ∧
    t.cmap = {
      layout := ⟨true, true, true, true, true, true, true, true, true, true⟩
      front := .small, centre := .small, surround := .small, back := .small, height := .small, crossover := 80, sub := true
      cCoef := .db3, sCoef := .db3, bCoef := .db45, hCoef := .db3, pad := false, filters := .replicate 9 ⟨⟨0, 0, 0, 0⟩, ⟨0, 0, 0, 0⟩, ⟨0, 0, 0, 0⟩, ⟨0, 0, 0, 0⟩⟩ } ∧
    (∀ o, t.lev o = ⟨-160, -160, 0, 0, false⟩) ∧ (∀ i, t.lvu.lineTrims.get i = 0) ∧ t.lvu.rampTimer = 1 ∧
    (∀ c, t.chan c = {
      assign := match c with
        | .ac0 => some ⟨.main, .fl⟩ | .ac1 => some ⟨.main, .fr⟩ | .ac2 => some ⟨.main, .c⟩ | .ac3 => some ⟨.main, .sl⟩
        | .ac4 => some ⟨.main, .sr⟩ | .ac5 => some ⟨.main, .sbl⟩ | .ac6 => some ⟨.main, .sbr⟩ | .ac7 => some ⟨.main, .hl⟩
        | .ac8 => some ⟨.main, .hr⟩ | .ac9 => some ⟨.z2, .l⟩ | .ac10 => some ⟨.z2, .r⟩
      state := .idle, cause := none, retries := 0, retryWait := none, freeRun := 0, trim := 0, changing := false
      lastCheck := none }) ∧
    (∀ p, t.pkg p = ⟨.off, 0, none, ⟨false, false⟩⟩) ∧ t.acc.reassign = none ∧ t.acc.check = none ∧
    (∀ i, (t.tlm.meas.get i).sum = 0 ∧ (t.tlm.meas.get i).count = 0 ∧ (t.tlm.meas.get i).valid = false) ∧
    t.tlm.limits = ⟨190, 230, 10, 160, 200, 10, 400, 560, 10, 16, 4⟩ ∧ t.tlm.lock = false ∧
    (∀ p, t.heat p = ⟨.normal, 0, 2000⟩) ∧
    t.tlm.hsWarm = false ∧ t.tlm.hsTrip = false ∧ t.tlm.railLow = false ∧ t.tlm.railHigh = false ∧ t.tlm.samplingTimer = 10 ∧
    (∀ z, t.guard z = ⟨0, 4800, 0, 0⟩) ∧ (∀ f, t.flag f = false) ∧
    (∀ f, (t.fan f).set = {
        sensors := match f with | .f0 => ⟨true, true, false, false, false⟩ | .f1 => ⟨false, false, true, true, true⟩
        t1 := 100, d1 := 64, t2 := 160, d2 := 160, t3 := 200, stopAllowed := true, rampRate := 16, snapToZero := false
        spinUpTime := 1000, spinUpReduction := false, edges := 5, guard := 32, ignoreEdges := false, slowMarking := false
        period := 1000, tachLimit := 15000 } ∧
      (t.fan f).target = 0 ∧ (t.fan f).current = 0 ∧ (t.fan f).spinUp = none ∧ (t.fan f).reading = 0xFFFF ∧
      (t.fan f).stallRun = 0 ∧ (t.fan f).stalled = false ∧ (t.fan f).meas = none ∧ (t.fan f).tachTimer = 1000 ∧
      (t.fan f).pwm = 0) ∧
    t.fnc.dutyTimer = 100 ∧
    t.tun.state = .idle ∧ t.tun.band = .fm ∧ t.tun.channel = 10 ∧ t.tun.quality = 0 ∧ t.tun.stereo = false ∧
    t.tun.opOrigin = none ∧ t.tun.dwell = none ∧ t.tun.start = none ∧ t.tun.ret = none ∧ t.tun.scan = none ∧
    t.tun.af = none ∧ t.tun.step = 2 ∧ t.tun.raster = 9 ∧ t.tun.margin = 12 ∧ t.tun.afMargin = 20 ∧ t.tun.baseFm = 160 ∧
    t.tun.baseAm = 160 ∧ t.tun.weak = none ∧ t.tun.lastPreset = none ∧ (∀ i, t.tun.presets.get i = none) ∧
    t.tun.stations = [] ∧ t.tun.ticket = none ∧ t.tun.monitor = 100 ∧
    t.sdd.sync = .search ∧ t.sdd.window = [] ∧ t.sdd.badWords = 0 ∧ t.sdd.otherGroups = 0 ∧
    t.sdd.data = ⟨none, none, false, false, .replicate 4 ⟨none, none⟩, none, []⟩ ∧ t.sdd.filter = ⟨none, 0, false⟩ ∧
    t.sdd.ann = ⟨.inactive, none, none, none, none, ⟨false, false, false⟩⟩ ∧
    (∀ l, (t.link l).take = 0 ∧ (t.link l).queue = [] ∧ (t.link l).overrun = false ∧ (t.link l).seq = 0 ∧
      (t.link l).gen = 0 ∧ (t.link l).attention = true ∧ (t.link l).mask = ⟨true, true, true, true, true⟩ ∧
      (t.link l).lastFrame = .none ∧ ∀ i, (t.link l).slots.get i = ⟨.free, List.replicate 16 0⟩) ∧
    t.lnk.resetting = none ∧
    t.perm .s = ⟨true, true, true, true, true, true⟩ ∧ t.perm .n = ⟨true, true, true, true, false, false⟩ ∧
    t.perm .k = ⟨true, true, true, true, false, false⟩ ∧
    t.kpp.binding.entries = [.main, .main, .z2, .z2, .z2, .z3, .z3, .z3] ∧ t.kpp.readback = .main ∧ t.kpp.ignored = 0 ∧
    t.kpp.rx0 = none ∧ t.kpp.rx1 = none ∧ t.kpp.overflow = false ∧ (∀ i, t.kpp.keys.get i = ⟨none, 0, false⟩) ∧
    ∀ k, t.kpp.keymap.get k = ⟨.none, 0⟩

/-- Power-on reset sets the amplifier channel table: the power-on assignment, every channel IDLE with nothing counted, every package OFF with nothing held, no reassignment and no line check in flight, and no zone out of STANDBY. -/
def Obligations.PowerOnResetAmplifierTable : Prop :=
  ∀ (s : State), ∃ t, exec .powerOnReset s = .next t ∧
    (∀ c, (t.chan c).assign = (match c with
        | .ac0 => some ⟨.main, .fl⟩ | .ac1 => some ⟨.main, .fr⟩ | .ac2 => some ⟨.main, .c⟩ | .ac3 => some ⟨.main, .sl⟩
        | .ac4 => some ⟨.main, .sr⟩ | .ac5 => some ⟨.main, .sbl⟩ | .ac6 => some ⟨.main, .sbr⟩ | .ac7 => some ⟨.main, .hl⟩
        | .ac8 => some ⟨.main, .hr⟩ | .ac9 => some ⟨.z2, .l⟩ | .ac10 => some ⟨.z2, .r⟩) ∧
      (t.chan c).state = .idle ∧ (t.chan c).cause = none ∧ (t.chan c).retries = 0 ∧ (t.chan c).retryWait = none ∧
      (t.chan c).freeRun = 0 ∧ (t.chan c).trim = 0 ∧ (t.chan c).changing = false ∧ (t.chan c).lastCheck = none) ∧
    (∀ p, (t.pkg p).power = .off ∧ (t.pkg p).misses = 0 ∧ (t.pkg p).timer = none ∧ (t.pkg p).holds = ⟨false, false⟩) ∧
    t.acc.reassign = none ∧ t.acc.check = none ∧ ∀ z, (t.zone z).state = .standby

/-! ## Takes (chapter 10) -/

/-- A request of the catalogue that LNK refuses changes nothing but its own slots: turned away while the slots are part-owned or taking is stopped, CHAIN_LONG beyond its chain maximum, then the checks of R186 in their order.
A slot of an unknown kind completes BAD_KIND, and a continuation on its own completes CHAIN_LONG.
The model's own choice where it rests on log entries 12 and 13. -/
def Obligations.RefusedSlotsChangeNothing : Prop :=
  (∀ (c : Instr) (h : ReqHead) (q : Request) (line : Line) (s : State),
      requestOf c = some (h, q) → catalogue q.kind = some line →
      (ringReady s h = false → exec c s = .next s) ∧
      (ringReady s h = true → nextIdle s h = true → line.chain < h.slots →
        exec c s = .next (s.answerAs h q.kind .chainLong .chainLong 0 [])) ∧
      (ringReady s h = true → nextIdle s h = true → h.slots ≤ line.chain →
        if line.need = .sOnly ∧ h.link = .n then exec c s = .next (s.answer h q.kind .noPermission 0 [])
        else if line.zoneRequest = true ∧ 2 < h.target.toNat then exec c s = .next (s.answer h q.kind .badZone 0 [])
        else if allowed (s.perm h.link.port) line.need (zoneOfCode h.target.toNat) = false then
          exec c s = .next (s.answer h q.kind .noPermission 0 [])
        else arrives h q.kind s = true)) ∧
  (∀ (h : ReqHead) (kind : Byte) (s : State),
      ringReady s { h with slots := 1 } = true → nextIdle s { h with slots := 1 } = true →
      (catalogue kind = none → kind ≠ 0xFF →
        exec (.unknownRequestKind h kind) s = .next (s.answer { h with slots := 1 } kind .badKind 0 [])) ∧
      exec (.continuation h) s = .next (s.answer ⟨h.link, h.tag, 0, false, 1⟩ 0xFF .chainLong 0 []))

/-- A request completes in its slot, with its REQUEST_DONE notice, unless its link has been reset since the take; the continuation slots of a chain complete OK with their own tags.
The notice's origin is the request's own link.
The model's own choice where it rests on log entry 18. -/
def Obligations.CompletionFollowsResetGeneration : Prop :=
  ∀ (k : Ticket) (st : Status) (page : Byte) (data : List Byte) (s : State), 1 ≤ k.slots → k.slots ≤ 8 →
    let t := s.complete k st page data
    if (s.link k.link).gen = k.gen then
      (∀ n : Fin 8, (t.link k.link).slots.get (slotAfter k.slot n.val) =
        if n.val = 0 then ⟨.done, resultRecord k.kind st k.tag k.target page data⟩
        else if n.val < k.slots then
          ⟨.done, resultRecord 0xFF .ok (((s.link k.link).slots.get (slotAfter k.slot n.val)).record.getD 1 0) 0 0 []⟩
        else (s.link k.link).slots.get (slotAfter k.slot n.val)) ∧
      t = s.updLink k.link (fun r =>
        let q := { r with slots := (t.link k.link).slots }
        if k.notify then
          (if q.queue.length < 16 then
            { q with seq := q.seq + 1, queue := q.queue ++ [⟨.requestDone k.slot k.kind k.tag st, k.link.origin, q.seq⟩] }
          else { q with seq := q.seq + 1, overrun := true })
        else q)
    else t = s

/-! ## Frames (chapter 10) -/

/-- WRITE_SLOT is judged at its header and acts when its sixteen record bytes have arrived; cut short before that it ends TRUNCATED and leaves its slot. A slot that no take follows takes the record and its phase from the hand flag.
Frames judged BAD_FRAME, cut off in the header or stalled change nothing but the last frame outcome and what the data-out line sent.
The model's own choice where it rests on log entries 20 and 32. -/
def Obligations.FramesAreJudged : Prop :=
  (∀ (l : Link) (arg : Byte) (bytes : List Byte) (busy : Bool) (s : State),
      let judged : Byte :=
        if arg.toNat / 8 % 16 ≠ 0 then 2 else if busy = true ∨ linkOwned (s.link l) (slotIndex arg) = false then 1 else 0
      if bytes.length < 16 then exec (.writeSlot l arg bytes busy) s = .next (endFrame l .truncated [judged] s)
      else if arg.toNat / 8 % 16 ≠ 0 then exec (.writeSlot l arg bytes busy) s = .next (endFrame l .badFrame [2] s)
      else if busy = true ∨ linkOwned (s.link l) (slotIndex arg) = false then
        exec (.writeSlot l arg bytes busy) s = .next (endFrame l .slotBusy [1] s)
      else
        (s.lnk.resetting.isSome = true ∨
          (((s.link l).slots.get (s.link l).take).phase ≠ .queued ∧ (handFlag arg = false ∨ slotIndex arg ≠ (s.link l).take))) →
        exec (.writeSlot l arg bytes busy) s = .next ((endFrame l .accepted [0] s).updLink l (fun r =>
          { r with slots := r.slots.set (slotIndex arg) ⟨if handFlag arg then .queued else .free, bytes.take 16⟩ }))) ∧
  (∀ (l : Link) (code arg : Byte) (s : State),
      ((code.toNat = 0 ∨ 5 < code.toNat ∨ (code = 1 ∧ arg.toNat / 8 % 16 ≠ 0) ∨ (code = 2 ∧ 7 < arg.toNat) ∨
          (code = 3 ∧ (arg = 0 ∨ 8 < arg.toNat)) ∨ ((code = 4 ∨ code = 5) ∧ arg ≠ 0)) →
        exec (.badFrame l code arg) s = .next (endFrame l .badFrame [2] s)) ∧
      exec (.frameTruncated l) s = .next (endFrame l .truncated [] s) ∧
      exec (.frameStall l .header) s = .next (s.setLink l { s.link l with lastFrame := .stalled, reading := none }) ∧
      exec (.frameStall l .other) s = .next (s.setLink l { s.link l with lastFrame := .stalled, reading := none }))

/-- A ZONE_VOLUME written slot byte by slot byte and handed at the take pointer acts as the command ZONE_VOLUME, absolute and relative.
A chain whose head is wrong completes in its first slot alone as soon as that slot is handed at the take pointer: BAD_KIND for a kind of no request, BAD_ARGUMENT for a count below 2 or above 8, CHAIN_LONG for a count above the kind's maximum.
The model's own choice where it rests on log entries 16, 20 and 32. -/
def Obligations.WrittenVolumeActsAsRequest : Prop :=
  (∀ (l : Link) (notify relative : Bool) (tag target count hi lo : Byte) (rest : List Byte) (s : State),
      rest.length = 8 → ringReady s ⟨l, tag, target, notify, 1⟩ = true → nextIdle s ⟨l, tag, target, notify, 1⟩ = true →
      let v := (hi ++ lo : BitVec 16).toInt
      exec (.writeSlot l (BitVec.ofNat 8 (128 + (s.link l).take.val))
          ([0x03, if notify then 2 else 0, tag, target, count, if relative then 1 else 0, hi, lo] ++ rest) false) s =
        exec (.zoneVolume ⟨l, tag, target, notify, 1⟩ (if relative then .relative v else .absolute v)) (endFrame l .accepted [0] s)) ∧
  (∀ (l : Link) (kind flags tag target count : Byte) (rest : List Byte) (s : State),
      rest.length = 11 → kind ≠ 0xFF → flags.getLsbD 0 = true →
      let h : ReqHead := ⟨l, tag, target, flags.getLsbD 1, 1⟩
      ringReady s h = true → nextIdle s h = true →
      let refused := fun (st : Status) =>
        exec (.writeSlot l (BitVec.ofNat 8 (128 + (s.link l).take.val)) ([kind, flags, tag, target, count] ++ rest) false) s =
          .next ((endFrame l .accepted [0] s).answer h kind st 0 [])
      match catalogue kind with
      | none => refused .badKind
      | some line =>
        (count.toNat < 2 ∨ 8 < count.toNat → refused .badArgument) ∧
        (2 ≤ count.toNat → count.toNat ≤ 8 → line.chain < count.toNat → refused .chainLong))

/-- A request of the catalogue written slot by slot acts as its command: each slot but the last only waits, and the last one handed has the whole request taken with the bytes of all its slots.
A chain that a slot of another request cuts short completes CHAIN_SHORT in the slots before the stray one, which is taken as a new request.
A PRESET_UPLOAD entry has room for a name of four characters in its slot.
The model's own choice where it rests on log entries 12, 14, 15, 16, 20 and 32. -/
def Obligations.WrittenRequestsActAsCommands : Prop :=
  ∀ (c d : Instr) (h g : ReqHead) (q p : Request) (line : Line) (s : State),
    let fits := fun (i : Instr) (k : ReqHead) (r : Request) =>
      requestOf i = some (k, r) ∧ i.wf = true ∧ dataFits k.slots r.data = true ∧
        match i with
        | .presetUpload _ l => ∀ e ∈ l, ∀ b f n, e.content = some (b, f, some n) → n.length ≤ 4
        | _ => True
    fits c h q → fits d g p → g.slots = 1 → g.link = h.link →
    catalogue q.kind = some line → h.slots ≤ line.chain → ringReady s h = true →
    let write := fun (m : Nat) (rcd : List Byte) =>
      exec (.writeSlot h.link (BitVec.ofNat 8 (128 + (slotAfter (s.link h.link).take m).val)) rcd false) (s.handed h q m)
    let last := h.slots - 1
    (∀ m, m < last → write m (requestRecord h q.kind q.data m) = .next (endFrame h.link .accepted [0] (s.handed h q (m + 1)))) ∧
    write last (requestRecord h q.kind q.data last) = exec c (endFrame h.link .accepted [0] s) ∧
    (0 < last → write last (requestRecord g p.kind p.data 0) =
      exec d ((endFrame h.link .accepted [0] s).answerAs { h with slots := last } q.kind .chainShort .chainShort 0 []))

/-- READ_SLOT and READ_LINK answer what stands at the header and change nothing else.
READ_NOTICES sends from the head of the queue, takes out the notices whose sixteenth byte was shifted out, and clears the overrun flag; one that stalls keeps the rest in the same way. Its stall timer starts at each clock edge and goes with the frame.
It may come as a whole, or as its header, shifts and end with the part's events between them.
The model's own choice where it rests on log entries 18, 20 and 32. -/
def Obligations.ReadFramesAnswer : Prop :=
  (∀ (l : Link) (arg : Byte) (s : State),
      (if arg.toNat ≤ 7 then
        exec (.readSlot l arg) s = .next (endFrame l .accepted
          (0 :: BitVec.ofNat 8 ((s.link l).slots.get (slotIndex arg)).phase.code :: ((s.link l).slots.get (slotIndex arg)).record) s)
      else exec (.readSlot l arg) s = .next (endFrame l .badFrame [2] s)) ∧
      (if arg = 0 then
        exec (.readLink l arg) s = .next (endFrame l .accepted
          [0, BitVec.ofNat 8 (s.link l).take.val, BitVec.ofNat 8 (s.link l).queue.length,
            if (s.link l).overrun then 1 else 0, BitVec.ofNat 8 (s.perm l.port).bits, if (s.link l).attention then 1 else 0,
            BitVec.ofNat 8 (s.link l).mask.bits, BitVec.ofNat 8 (s.link l).seq.val,
            BitVec.ofNat 8 (s.link l).lastFrame.code] s)
      else exec (.readLink l arg) s = .next (endFrame l .badFrame [2] s))) ∧
  (∀ (l : Link) (arg : Byte) (shifted : Nat) (s : State),
      let r := s.link l
      (if arg.toNat = 0 ∨ 8 < arg.toNat then
        exec (.readNotices l arg (.whole shifted)) s = .next (endFrame l .badFrame [2] s) ∧
        exec (.readNotices l arg .header) s = .next (endFrame l .badFrame [2] s) ∧
        exec (.frameStall l (.readNotices arg shifted)) s = .next (endFrame l .stalled [2] s)
      else
        let n := min arg.toNat r.queue.length
        let out := min n ((shifted - 2) / 16)
        let answer := [BitVec.ofNat 8 n, if r.overrun then 1 else 0] ++ (r.queue.take n).flatMap Notice.bytes
        let after := fun (o : FrameOutcome) => s.setLink l { r with
          queue := r.queue.drop out, overrun := false, lastFrame := o, reading := none
          dataOut := 0 :: (answer ++ List.replicate shifted 0).take shifted }
        exec (.readNotices l arg (.whole shifted)) s = .next (after .accepted) ∧
        exec (.frameStall l (.readNotices arg shifted)) s = .next (after .stalled) ∧
        exec (.readNotices l arg .header) s =
          .next (s.setLink l { r with overrun := false, dataOut := [0], reading := some ⟨n, 0, answer, 10⟩ })) ∧
      match r.reading with
      | none =>
        exec (.readNotices l arg (.shift shifted)) s = .next s ∧ exec (.readNotices l arg .finish) s = .next s ∧
        exec (.frameStall l .reading) s = .next s
      | some k =>
        let out := fun (m : Nat) => min k.sent ((m - 2) / 16)
        let m := k.shifted + shifted
        exec (.readNotices l arg (.shift shifted)) s = .next (s.setLink l { r with
          queue := r.queue.drop (out m - out k.shifted), dataOut := 0 :: (k.answer ++ List.replicate m 0).take m
          reading := some { k with shifted := m, stall := if shifted = 0 then k.stall else 10 } }) ∧
        exec (.readNotices l arg .finish) s = .next (s.setLink l { r with lastFrame := .accepted, reading := none }) ∧
        exec (.frameStall l .reading) s = .next (s.setLink l { r with lastFrame := .stalled, reading := none }))

/-! ## Link settings and soft reset (chapter 10) -/

/-- LINK_PERMIT replaces N's or K's permission set, never with CONFIG and never with PROTECT_CLEAR for K; NOTICE_MASK replaces its own link's mask and attention enable.
LINK_RESET frees the ring of its own link, empties its queue and steps its reset generation; nothing else changes.
The model's own choice where it rests on log entries 20 and 32. -/
def Obligations.LinkSettingsAndReset : Prop :=
  (∀ (h : ReqHead) (who : Nat) (p : PermSet) (m : ClassSet) (attention : Bool) (s : State),
      (arrives h 0x2B s = true →
        exec (.linkPermit h who p) s =
          if 1 < who ∨ p.config = true ∨ (who = 1 ∧ p.protectClear = true) then .next (s.answer h 0x2B .badArgument 0 [])
          else .next (({ s with lnk := { s.lnk with perms := s.lnk.perms.set (if who = 0 then 1 else 2) p } } : State).answer
            h 0x2B .ok 0 [])) ∧
      (arrives h 0x2C s = true →
        exec (.noticeMask h m attention) s =
          .next ((s.setLink h.link { s.link h.link with mask := m, attention := attention }).answer h 0x2C .ok 0 []))) ∧
  (∀ (l : Link) (arg : Byte) (s : State),
      exec (.linkReset l arg) s =
        if arg = 0 then
          .next (s.setLink l { s.link l with
            slots := .replicate 8 ⟨.free, List.replicate 16 0⟩, take := 0, queue := [], overrun := false
            gen := (s.link l).gen + 1, seq := 0, lastFrame := .accepted, dataOut := [0], reading := none })
        else .next (s.setLink l { s.link l with lastFrame := .badFrame, dataOut := [2], reading := none }))

/-- SOFT_RESET stops taking and takes every block to its soft-reset state: zones in STANDBY with nothing held, the clocked sources ABSENT, the tuner source LOCKED, engines FREE, outputs at the floor, channels IDLE and packages OFF unless LATCHED, the tuner IDLE where it stands, the station data cleared, the keypad buffer and key records empty.
Every setting, the monitor and the fans stay. Where every held ticket names its IN_FLIGHT slot, the other requests in flight complete ABORTED and the SOFT_RESET itself stays IN_FLIGHT.
SOFT_RESET_DONE completes the SOFT_RESET, posts RESET_DONE with origin S and lets taking resume.
The model's own choice where it rests on log entry 27. -/
def Obligations.SoftResetRunsAndEnds : Prop :=
  (∀ (h : ReqHead) (s : State), arrives h 0x2D s = true →
      ∃ t, exec (.softReset h) s = .next t ∧ t.lnk.resetting = some (ticketAt (s.link h.link) h 0x2D) ∧
        (SlotsHeld s → isInFlight h s t = true ∧ ∀ k, k ∈ heldTickets s →
          (t.link k.link).slots.get k.slot = ⟨.done, resultRecord k.kind .aborted k.tag k.target 0 []⟩) ∧
        t.settings = s.settings ∧ t.tlm = s.tlm ∧ t.fnc = s.fnc ∧
        (∀ z, (t.zone z).power = .standby ∧ (t.zone z).state = .standby ∧ (t.zone z).pending = none ∧
          (t.zone z).standbyFlag = false ∧ (t.zone z).switchOrigin = none ∧ (t.zone z).wait = none ∧ (t.zone z).sleep = none ∧
          (t.zone z).saved = none ∧ (t.zone z).engine = none ∧ (t.zone z).pair = none ∧ (t.zone z).source = (s.zone z).source ∧
          (t.zone z).lastOrigin = .s) ∧
        t.zc.convWait = [] ∧ t.de.wait = [] ∧
        (∀ x, (t.src x).listeners = ⟨false, false, false⟩ ∧ (t.src x).engine = none ∧ (t.src x).pair = none ∧
          (t.src x).shortFrames = 0 ∧ (t.src x).run = ⟨0, none⟩ ∧
          match x.kind with
          | .tuner => (t.src x).lock = .locked ∧ (t.src x).format = .pcm2 ∧ (t.src x).rate = some .r48
          | .analog => (t.src x).lock = .absent ∧ (t.src x).format = .none
          | .digital | .multi | .network =>
            (t.src x).lock = .absent ∧ (t.src x).attempts = 0 ∧ (t.src x).format = .none ∧ (t.src x).rate = none ∧
              (t.src x).channels = none ∧ (t.src x).ifRate = none ∧ (t.src x).seqTimer = none) ∧
        (∀ e, (t.eng e).state = .free ∧ (t.eng e).bound = none ∧ (t.eng e).loaded = none ∧
          (t.eng e).consumers = ⟨false, false, false⟩ ∧ (t.eng e).loadTime = none ∧ (t.eng e).frameErrors = 0 ∧
          (t.eng e).errorRun = 0 ∧ (t.eng e).lastGood = none) ∧
        (∀ o, t.lev o = ⟨-160, -160, 0, 0, false⟩) ∧
        (∀ c, t.chan c = if (s.chan c).state = .latched then { s.chan c with changing := false }
          else { s.chan c with changing := false, state := .idle, cause := none, retryWait := none }) ∧
        (∀ p, t.pkg p = if (s.pkg p).power = .latched then s.pkg p
          else { s.pkg p with power := .off, timer := none, misses := 0 }) ∧
        t.acc.reassign = none ∧ t.acc.check = none ∧
        t.tun.state = .idle ∧ t.tun.band = s.tun.band ∧ t.tun.channel = s.tun.channel ∧ t.tun.ticket = none ∧
        t.tun.dwell = none ∧ t.tun.start = none ∧ t.tun.ret = none ∧ t.tun.scan = none ∧ t.tun.af = none ∧ t.tun.weak = none ∧
        t.tun.quality = s.tun.quality ∧ t.tun.stations = s.tun.stations ∧ t.tun.opOrigin = s.tun.opOrigin ∧
        t.sdd.sync = .search ∧ t.sdd.window = [] ∧ t.sdd.badWords = 0 ∧ t.sdd.otherGroups = 0 ∧
        t.sdd.data = ⟨none, none, false, false, .replicate 4 ⟨none, none⟩, none, []⟩ ∧
        t.sdd.ann = ⟨.inactive, none, none, none, none, ⟨false, false, false⟩⟩ ∧
        t.kpp.rx0 = none ∧ t.kpp.rx1 = none ∧ ∀ i, t.kpp.keys.get i = ⟨none, 0, false⟩) ∧
  (∀ (s : State),
      match s.lnk.resetting with
      | none => exec .softResetDone s = .next s
      | some k =>
        (∀ l, ((s.link l).slots.get (s.link l).take).phase ≠ .queued) →
        exec .softResetDone s =
          .next ((({ s with lnk := { s.lnk with resetting := none } } : State).complete k .ok 0 []).posted [(.resetDone, .s)]))

/-! ## Queries -/

/-- The queries of the zones, sources, engines, outputs, channels, monitor and fans answer one page of their result and change nothing; a target that does not exist, or a page beyond the final one, is BAD_ARGUMENT.
The queries of the tuner, the station list, the presets, the station data and the keypads answer one page and change nothing, but that KEYPAD_QUERY clears the overflow flag when it completes OK.
The model's own choice where it rests on log entries 17 and 40. -/
def Obligations.QueriesAnswerOnePage : Prop :=
  (∀ (h : ReqHead) (page : Nat) (s : State),
      (∀ z, arrives h 0x07 s = true → zoneOfCode h.target.toNat = some z →
        exec (.zoneQuery h page) s = .next (s.answerPaged h 0x07 (zoneResult s z) page)) ∧
      (arrives h 0x0B s = true → exec (.sourceQuery h page) s = .next (match srcOfId h.target.toNat with
        | some x => s.answerPaged h 0x0B (sourceResult s x) page
        | none => s.answer h 0x0B .badArgument 0 [])) ∧
      (arrives h 0x10 s = true → exec (.engineQuery h page) s = .next (match engineOfCode h.target.toNat with
        | some e => s.answerPaged h 0x10 (engineResult s e) page
        | none => s.answer h 0x10 .badArgument 0 [])) ∧
      (arrives h 0x12 s = true → exec (.levelQuery h page) s = .next (match outOfCode h.target.toNat with
        | some o => s.answerPaged h 0x12 (levelResult s o) page
        | none => s.answer h 0x12 .badArgument 0 [])) ∧
      (arrives h 0x15 s = true → exec (.ampQuery h page) s = .next (match chanOfCode h.target.toNat with
        | some c => s.answerPaged h 0x15 (ampResult s c) page
        | none => s.answer h 0x15 .badArgument 0 [])) ∧
      (arrives h 0x1A s = true → exec (.protQuery h page) s = .next (s.answerPaged h 0x1A (protResult s) page)) ∧
      (arrives h 0x1C s = true → exec (.fanQuery h page) s = .next (match fanOfCode h.target.toNat with
        | some f => s.answerPaged h 0x1C (fanResult s f) page
        | none => s.answer h 0x1C .badArgument 0 []))) ∧
  (∀ (h : ReqHead) (page index : Nat) (s : State),
      (arrives h 0x23 s = true → exec (.presetRead h page) s = .next (match indexOf40 h.target.toNat with
        | some i => s.answerPaged h 0x23
            (match s.tun.presets.get i with
              | none => [0]
              | some p => 1 :: u8 p.band.code ++ u16 p.freq ++ (match p.name with | none => [0] | some n => 1 :: fitBytes 8 n)) page
        | none => s.answer h 0x23 .badArgument 0 [])) ∧
      (arrives h 0x24 s = true → exec (.stationRead h page index) s = .next
        (if 39 < index then s.answer h 0x24 .badArgument 0 []
        else match s.tun.stations[index]? with
          | some x => s.answerPaged h 0x24 (stationBytes x) page
          | none => s.answer h 0x24 .notAvailable 0 [])) ∧
      (arrives h 0x25 s = true → exec (.tunerQuery h page) s = .next (s.answerPaged h 0x25 (tunerResult s.tun) page)) ∧
      (arrives h 0x2A s = true → exec (.stationDataQuery h page) s = .next (s.answerPaged h 0x2A (stationDataResult s) page)) ∧
      (arrives h 0x30 s = true → exec (.keypadQuery h page) s = .next
        ((if page * 11 < (keypadResult s).length then { s with kpp := { s.kpp with overflow := false } } else s : State).answerPaged
          h 0x30 (keypadResult s) page)))

/-! ## Zone requests and the sleep timer (chapter 1) -/

/-- ZONE_VOLUME clamps the asked volume to -160 and the ceiling, answers CLAMPED or OK with the applied V, and posts VOLUME only when V changes.
ZONE_MUTE sets, clears or toggles mute in every state, posts MUTE when it changes, and with snap-on-mute takes the zone's outputs to the floor at once.
The model's own choice where it rests on log entry 21. -/
def Obligations.VolumeAndMuteAreSet : Prop :=
  (∀ (h : ReqHead) (a : VolumeArg) (z : ZoneId) (s : State),
      arrives h 0x03 s = true → zoneOfCode h.target.toNat = some z →
      let r := s.zone z
      let asked := match a with
        | .absolute v => v
        | .relative d => r.volume + d
      let v := max (-160) (min r.ceiling asked)
      exec (.zoneVolume h a) s = .next
        ((if v = r.volume then s
          else (s.setZone z { r with volume := v, lastOrigin := h.link.origin }).posted [(.zoneVolume z v, h.link.origin)]).answer
          h 0x03 (if asked = v then .ok else .clamped) 0 (s16 v))) ∧
  (∀ (h : ReqHead) (a : MuteArg) (z : ZoneId) (s : State),
      arrives h 0x04 s = true → zoneOfCode h.target.toNat = some z →
      let r := s.zone z
      let m := match a with
        | .on => true
        | .off => false
        | .toggle => !r.mute
      let t := s.setZone z { r with mute := m, lastOrigin := h.link.origin }
      exec (.zoneMute h a) s = .next
        ((if m = r.mute then s
          else (if m && r.snapOnMute then
              t.withLevels (fun o => if outZone s o = some z then (s.lev o).floored else s.lev o)
            else t).posted [(.zoneMute z m, h.link.origin)]).answer h 0x04 .ok 0 [if m then 1 else 0]))

/-- ZONE_ANNOUNCE stores the follow flag and the clamped minimum level; ZONE_SOURCE_RING stores a list of 1 to 11 distinct sources and refuses every other, CHAIN_SHORT where its slots have no room for the list.
ZONE_LIMITS sets ceiling, ramp rate and snap-on-mute together, lowers V and the minimum level to a lower ceiling, and cuts the outputs that stand above their new limit level.
The model's own choice where it rests on log entries 14, 17 and 21. -/
def Obligations.ZoneSettingsAreStored : Prop :=
  (∀ (h : ReqHead) (follow : Bool) (level : Int) (ids : List Nat) (z : ZoneId) (s : State), zoneOfCode h.target.toNat = some z →
      let r := s.zone z
      let v := max (-160) (min r.ceiling level)
      (arrives h 0x06 s = true →
        exec (.zoneAnnounce h follow level) s = .next
          ((if follow = r.follow ∧ v = r.minLevel then s
            else s.setZone z { r with follow := follow, minLevel := v, lastOrigin := h.link.origin }).answer
            h 0x06 (if level = v then .ok else .clamped) 0 ((if follow then 1 else 0) :: s16 v))) ∧
      (arrives h 0x09 s = true →
        if 11 + 14 * (h.slots - 1) < 1 + ids.length then
          exec (.zoneSourceRing h ids) s = .next (s.answer h 0x09 .chainShort 0 [])
        else
          (∀ l : List Src, ids = l.map Src.id → 1 ≤ l.length → l.length ≤ 11 → l.Nodup →
            exec (.zoneSourceRing h ids) s = .next
              ((if l = r.ring then s else s.setZone z { r with ring := l, lastOrigin := h.link.origin }).answer
                h 0x09 .ok 0 (ids.map (BitVec.ofNat 8)))) ∧
          ((ids = [] ∨ 11 < ids.length ∨ ¬ ids.Nodup ∨ ∃ n ∈ ids, n = 0 ∨ 11 < n) →
            exec (.zoneSourceRing h ids) s = .next (s.answer h 0x09 .badArgument 0 [])))) ∧
  (∀ (h : ReqHead) (ceiling : Int) (ramp : Nat) (snapFlag : Bool) (z : ZoneId) (s : State),
      arrives h 0x08 s = true → zoneOfCode h.target.toNat = some z →
      let r := s.zone z
      let c := max (-40) (min 36 ceiling)
      let v := min r.volume c
      let q := { r with ceiling := c, ramp := ramp, snapOnMute := snapFlag, minLevel := min r.minLevel c, volume := v }
      let t := s.setZone z (if q = r then r else { q with lastOrigin := h.link.origin })
      let u := t.withLevels (fun o => if outZone s o = some z then cutLevel t o else s.lev o)
      exec (.zoneLimits h ceiling ramp snapFlag) s = .next
        (if ramp = 0 ∨ 16 < ramp then s.answer h 0x08 .badArgument 0 []
        else (u.posted (if v = r.volume then [] else [(.zoneVolume z v, h.link.origin)])).answer h 0x08
          (if ceiling = c then .ok else .clamped) 0 [BitVec.ofInt 8 c, BitVec.ofNat 8 ramp, if snapFlag then 1 else 0]))

/-- ZONE_SLEEP is NOT_AVAILABLE in STANDBY power, clears with 0, loads up to 180 minutes from a prescaler of 0, and limits what is above.
The model's own choice where it rests on log entries 17 and 21. -/
def Obligations.ZoneSleepLoadsMinutes : Prop :=
  ∀ (h : ReqHead) (n : Nat) (z : ZoneId) (s : State),
    arrives h 0x05 s = true → zoneOfCode h.target.toNat = some z →
    let r := s.zone z
    let o := h.link.origin
    if r.power = .standby then exec (.zoneSleep h n) s = .next (s.answer h 0x05 .notAvailable 0 [])
    else if n = 0 then
      (r.sleep ≠ none → exec (.zoneSleep h n) s = .next
        (((s.setZone z { r with sleep := none, lastOrigin := o }).posted [(.zoneSleep z 0 false, o)]).answer h 0x05 .ok 0 [0])) ∧
      (r.sleep = none →
        ∃ t, exec (.zoneSleep h n) s = .next t ∧ hasAnswer h 0x05 .ok [0] s t = true ∧ t.settings = s.settings ∧
          (t.zone z).sleep = none)
    else if n ≤ 180 then
      exec (.zoneSleep h n) s = .next
        (((s.setZone z { r with sleep := some ⟨n, 0⟩, lastOrigin := o }).posted [(.zoneSleep z n false, o)]).answer
          h 0x05 .ok 0 [BitVec.ofNat 8 n])
    else
      exec (.zoneSleep h n) s = .next
        (((s.setZone z { r with sleep := some ⟨180, 0⟩, lastOrigin := o }).posted [(.zoneSleep z 180 false, o)]).answer
          h 0x05 .clamped 0 [180])

/-- A minute of a loaded sleep passes; the last minute, and the expiry itself, take the zone to standby with origin PART.
The model's own choice where it rests on log entries 5 and 23. -/
def Obligations.SleepRunsDownToStandby : Prop :=
  ∀ (z : ZoneId) (s : State),
    match (s.zone z).sleep with
    | none => exec (.sleepMinute z) s = .next s ∧ exec (.sleepExpiry z) s = .next s
    | some k =>
      if 1 < k.minutes then
        exec (.sleepMinute z) s = .next (s.setZone z { s.zone z with sleep := some ⟨k.minutes - 1, 0⟩ }) ∧
        exec (.sleepExpiry z) s = .next s
      else
        exec (.sleepMinute z) s = exec (.sleepExpiry z) s ∧
        ∃ t, exec (.sleepExpiry z) s = .next t ∧ (t.zone z).power = .standby ∧ (t.zone z).sleep = none ∧
          (t.zone z).lastOrigin = .part ∧ t.settings = s.settings ∧
          match (s.zone z).state with
          | .standby => (t.zone z).state = .standby
          | .playing => (t.zone z).state = .switching ∧ (t.zone z).standbyFlag = true ∧ (t.zone z).switchOrigin = some .part
          | .switching => (t.zone z).state = .switching ∧ (t.zone z).standbyFlag = true
          | .acquiring => (t.zone z).state = .standby ∧ (t.zone z).pair = none ∧ (t.zone z).engine = none

/-- ZONE_POWER on: nothing when power is ON; from STANDBY the zone acquires its source and the lock sequencers run; while it drains toward standby the drain is cancelled.
A zone switched on is judged by the table of R4 and has ZC act on the first unmet condition: PLAYING without a reason where none is unmet, else ACQUIRING with that reason.
An analog source without a pair is given a free one, CV0 first, and is LOCKED; where none is free the zone goes to the tail of the converter wait list.
A zone that needs an engine joins the one bound to its source, has a FREE one bound and loaded for its source, DE0 first, or goes on the engine wait list, MAIN at its head.
The model's own choice where it rests on log entry 17. -/
def Obligations.ZonePowerOnAcquires : Prop :=
  (∀ (h : ReqHead) (z : ZoneId) (s : State),
      arrives h 0x01 s = true → zoneOfCode h.target.toNat = some z →
      let r := s.zone z
      (r.power = .on → exec (.zonePowerOn h) s = .next (s.answer h 0x01 .ok 0 [0])) ∧
      (r.power = .standby → r.state = .standby →
        ∃ t, exec (.zonePowerOn h) s = .next t ∧ hasAnswer h 0x01 .ok [0] s t = true ∧ t.settings = s.settings ∧
          (t.zone z).power = .on ∧ (t.zone z).judged (firstUnmet t z) ∧
          (t.zone z).source = r.source ∧ (t.src r.source).listeners.has z = true ∧
          (anyOut s = false → ∀ c : Clocked, (t.src c.src).lock ≠ .absent)) ∧
      (r.power = .standby → r.state = .switching → r.standbyFlag = true →
        ∃ t, exec (.zonePowerOn h) s = .next t ∧ hasAnswer h 0x01 .ok [0] s t = true ∧ t.settings = s.settings ∧
          (t.zone z).power = .on ∧ (t.zone z).judged (firstUnmet t z) ∧
          (t.zone z).standbyFlag = false ∧ (t.zone z).source = r.source)) ∧
  (∀ (h : ReqHead) (z : ZoneId) (s : State),
      arrives h 0x01 s = true → zoneOfCode h.target.toNat = some z →
      let r := s.zone z
      let x := r.source
      let f := (s.src x).format
      r.power = .standby → r.state = .standby → r.engine = none → r.pair = none →
      ∃ t, exec (.zonePowerOn h) s = .next t ∧
        (let y := t.src x
          let input : Option WaitReason := match x.kind with
            | .digital | .multi | .network =>
              if y.lock = .lost then some .lost else if y.lock ≠ .locked then some .lock
              else if y.format = .none then some .format else none
            | .tuner => if t.tun.state = .idle then none else some .tuner
            | .analog => if (t.zone z).pair = none then some .converter else none
          let needs := y.format = .codedA ∨ y.format = .codedB ∨ (z = .main ∧ t.zc.mode = .upmix ∧ y.format = .pcm2)
          let served := (t.zone z).engine = some .de0 ∧ (t.eng .de0).bound = some x ∧ (t.eng .de0).state = .running ∨
            (t.zone z).engine = some .de1 ∧ (t.eng .de1).bound = some x ∧ (t.eng .de1).state = .running
          let unmet : Option WaitReason := if input ≠ none then input else if needs ∧ ¬ served then some .decoder else none
          (t.zone z).wait = unmet ∧ (t.zone z).state = if unmet = none then .playing else .acquiring) ∧
        (x.kind = .analog → (s.src x).lock ≠ .lost → s.zc.convWait.contains z = false →
          let given := fun (p : PairId) => (t.src x).pair = some p ∧ (t.zone z).pair = some p ∧ t.zc.convWait = s.zc.convWait ∧
            (t.src x).lock = .locked ∧ (t.src x).format = .pcm2 ∧ (t.src x).rate = some .r48
          match (s.src x).pair with
          | some p => (t.zone z).pair = some p ∧ t.zc.convWait = s.zc.convWait
          | none =>
            if pairHolder s .cv0 = none then given .cv0
            else if pairHolder s .cv1 = none then given .cv1
            else (t.zone z).pair = none ∧ t.zc.convWait = s.zc.convWait ++ [z] ∧ (t.zone z).wait = some .converter) ∧
        (x.kind ≠ .analog → (s.src x).lock = .locked → (x.kind = .tuner → s.tun.state = .idle) →
          (f = .codedA ∨ f = .codedB ∨ (z = .main ∧ s.zc.mode = .upmix ∧ f = .pcm2)) → ∀ rate, (s.src x).rate = some rate →
          let without := s.de.wait.filter (fun w => w != z)
          let only := ZoneSet.empty.put z true
          let bind := fun (e : EngineId) =>
            t.de.wait = without ∧ (t.zone z).engine = some e ∧ (t.src x).engine = some e ∧
            t.eng e = {
              state := .loading, bound := some x, mode := if f = .pcm2 then .upmix else .decode
              loaded := some (if f = .codedA then .codedA else if f = .codedB then .codedB else .pcm2, rate)
              consumers := only, roles := .empty, frameErrors := 0, errorRun := 0, lastGood := none, loadTime := some 5
              delivery := [] }
          match (s.src x).engine with
          | some e => t.de.wait = without ∧ (t.zone z).engine = some e ∧
              t.eng e = { s.eng e with consumers := (s.eng e).consumers.put z true }
          | none =>
            if (s.eng .de0).state = .free then bind .de0
            else if (s.eng .de1).state = .free then bind .de1
            else (t.zone z).engine = none ∧ t.eng .de0 = s.eng .de0 ∧ t.eng .de1 = s.eng .de1 ∧
              t.de.wait = (if s.de.wait.contains z then s.de.wait else if z = .main then z :: s.de.wait else s.de.wait ++ [z])))

/-- ZONE_POWER standby: a PLAYING zone starts its drain, a draining zone drains toward standby, an ACQUIRING zone enters STANDBY; a loaded sleep is cleared. Toggle acts as on or as standby.
The model's own choice where it rests on log entries 4, 17, 21 and 25. -/
def Obligations.ZonePowerStandbyDrains : Prop :=
  ∀ (h : ReqHead) (z : ZoneId) (s : State),
    arrives h 0x01 s = true → zoneOfCode h.target.toNat = some z →
    let r := s.zone z
    let o := h.link.origin
    exec (.zonePowerToggle h) s = (if r.power = .standby then exec (.zonePowerOn h) s else exec (.zonePowerStandby h) s) ∧
    (r.power = .standby → r.state = .standby → r.sleep = none →
      exec (.zonePowerStandby h) s = .next (s.answer h 0x01 .ok 0 [1])) ∧
    (r.state = .playing →
      let t := s.setZone z { r with
        power := .standby, sleep := none, pending := none, standbyFlag := true, switchOrigin := some o
        state := .switching, lastOrigin := o }
      let u := t.fading s z
      exec (.zonePowerStandby h) s = .next
        (((if z = .main then { u with cmap := { u.cmap with filters := .replicate 9 .zero } } else u : State).posted
          ((if r.sleep = none then [] else [(.zoneSleep z 0 false, o)]) ++ [(.zoneState z .switching none, o)])).answer
          h 0x01 .ok 0 [1])) ∧
    ∃ t, exec (.zonePowerStandby h) s = .next t ∧ hasAnswer h 0x01 .ok [1] s t = true ∧ t.settings = s.settings ∧
      (t.zone z).power = .standby ∧ (t.zone z).sleep = none ∧
      match r.state with
      | .standby => (t.zone z).state = .standby
      | .playing | .switching => (t.zone z).state = .switching ∧ (t.zone z).standbyFlag = true
      | .acquiring => (t.zone z).state = .standby ∧ (t.zone z).pair = none ∧ (t.zone z).engine = none

/-- ZONE_SOURCE on a zone by its state: stored in STANDBY, a switch from PLAYING, BUSY while draining toward standby, replaced or cancelled while switching, acquired at once in ACQUIRING. A taken zone leaves the announcement.
The model's own choice where it rests on log entries 4, 17, 21, 22 and 23. -/
def Obligations.ZoneSourceFollowsState : Prop :=
  ∀ (h : ReqHead) (id : Nat) (z : ZoneId) (s : State),
    arrives h 0x02 s = true → zoneOfCode h.target.toNat = some z →
    match srcOfId id with
    | none => exec (.zoneSource h id) s = .next (s.answer h 0x02 .badArgument 0 [])
    | some x =>
      let o := h.link.origin
      let taken := s.sdd.ann.taken.has z
      let r := if taken = true ∧ (s.zone z).saved.isSome = true then { s.zone z with saved := none, lastOrigin := o } else s.zone z
      let a : State := { s with
        zc := { s.zc with zones := s.zc.zones.set z.idx r }
        sdd := { s.sdd with ann := { s.sdd.ann with taken := s.sdd.ann.taken.put z false } } }
      match r.state with
      | .standby =>
        exec (.zoneSource h id) s = .next
          ((if x = r.source then a
            else (a.setZone z { r with source := x, lastOrigin := o }).posted [(.zoneSource z x, o)]).answer
            h 0x02 .ok 0 [BitVec.ofNat 8 id])
      | .playing =>
        let t := a.setZone z { r with
          pending := some x, standbyFlag := false, switchOrigin := some o, state := .switching, lastOrigin := o }
        let u := t.fading s z
        let v : State := if z = .main then { u with cmap := { u.cmap with filters := .replicate 9 .zero } } else u
        exec (.zoneSource h id) s = .next
          ((if x = r.source then a else v.posted [(.zoneState z .switching none, o)]).answer h 0x02 .ok 0 [BitVec.ofNat 8 id])
      | .switching =>
        if r.standbyFlag then exec (.zoneSource h id) s = .next (s.answer h 0x02 .busy 0 [])
        else if r.pending = some x then
          exec (.zoneSource h id) s = .next (a.answer h 0x02 .ok 0 [BitVec.ofNat 8 id])
        else if x = r.source then
          ∃ t, exec (.zoneSource h id) s = .next t ∧ hasAnswer h 0x02 .ok [BitVec.ofNat 8 id] s t = true ∧
            t.settings = s.settings ∧ (t.zone z).pending = none ∧ (t.zone z).source = x ∧ t.sdd.ann.taken.has z = false ∧
            (t.zone z).judged (firstUnmet t z)
        else
          exec (.zoneSource h id) s = .next
            ((a.setZone z { r with pending := some x, lastOrigin := o }).answer h 0x02 .ok 0 [BitVec.ofNat 8 id])
      | .acquiring =>
        ∃ t, exec (.zoneSource h id) s = .next t ∧ hasAnswer h 0x02 .ok [BitVec.ofNat 8 id] s t = true ∧
          t.settings = s.settings ∧ (t.zone z).source = x ∧ t.sdd.ann.taken.has z = false ∧
          (t.zone z).judged (firstUnmet t z) ∧
          (x ≠ r.source → (t.src x).listeners.has z = true)

/-- DRAIN_END acts on a SWITCHING zone that LVU has reported at the floor: toward standby it enters STANDBY and releases what it holds; toward a pending source it leaves the old source's listener set, its engine and its pair, takes that source and acquires it.
What a zone that goes to STANDBY at the end of its drain gives up goes to the zones that wait for it.
The pair of an analog source without listeners goes to the source that the head of the converter wait list wants, and every waiting zone of that source has it and is judged anew; with nobody waiting the pair is free and its source ABSENT.
That the zones served are judged within the same DRAIN_END is the model's own choice (log entries 9 and 26): R25 has them evaluated when SIU reports their source LOCKED, which section 1.10 shows as a later event.
An engine without consumers is bound to the source of the first zone of its wait list that needs one, with the other waiting zones of that source; with no such zone it is FREE. Other consumers keep it as it is.
The model's own choice where it rests on log entries 4, 9 and 26. -/
def Obligations.DrainEndReleasesAndMovesOn : Prop :=
  (∀ (z : ZoneId) (s : State),
      let r := s.zone z
      if r.state = .switching ∧ s.zc.floorReport.has z = true then
        if r.standbyFlag then
          ∃ t, exec (.drainEnd z) s = .next t ∧ t.settings = s.settings ∧ (t.zone z).state = .standby ∧
            (t.zone z).power = r.power ∧ (t.zone z).source = r.source ∧ (t.zone z).pair = none ∧ (t.zone z).engine = none ∧
            (t.zone z).sleep = none ∧ (t.zone z).saved = none ∧ (t.zone z).standbyFlag = false ∧
            (t.src r.source).listeners.has z = false ∧ t.sdd.ann.taken.has z = false
        else
          match r.pending with
          | none => exec (.drainEnd z) s = .next s
          | some x =>
            ∃ t, exec (.drainEnd z) s = .next t ∧ t.settings = s.settings ∧ (t.zone z).source = x ∧
              (t.zone z).pending = none ∧ (t.zone z).switchOrigin = none ∧ (t.src x).listeners.has z = true ∧
              (x ≠ r.source → (t.src r.source).listeners.has z = false) ∧
              (∀ e, r.engine = some e → (t.zone z).engine ≠ some e → (t.eng e).consumers.has z = false) ∧
              ((t.zone z).pair = none ∨ (t.zone z).pair = (t.src x).pair) ∧
              (t.zone z).judged (firstUnmet t z)
      else exec (.drainEnd z) s = .next s) ∧
  (∀ (z : ZoneId) (s : State),
      let r := s.zone z
      let x := r.source
      r.state = .switching → s.zc.floorReport.has z = true → r.standbyFlag = true →
      ∃ t, exec (.drainEnd z) s = .next t ∧
        (∀ p, (s.src x).pair = some p → r.engine = none →
          let waiting := s.zc.convWait.filter (fun w => w != z)
          if (s.src x).listeners.put z false ≠ .empty then (t.src x).pair = some p ∧ t.zc.convWait = waiting
          else match waiting with
            | [] => (t.src x).pair = none ∧ (t.src x).lock = .absent ∧ (t.src x).format = .none ∧ t.zc.convWait = []
            | g :: _ =>
              let y := (s.zone g).source
              (t.src y).pair = some p ∧ (x ≠ y → (t.src x).pair = none ∧ (t.src x).lock = .absent) ∧
              t.zc.convWait = waiting.filter (fun w => (s.zone w).source != y) ∧
              ∀ w, waiting.contains w = true → (s.zone w).source = y →
                (t.zone w).pair = some p ∧
                (y.kind = .analog → (s.zone w).state = .acquiring → (s.zone w).wait = some .converter →
                  (t.src y).lock = .locked ∧ (t.src y).format = .pcm2 ∧ (t.zone w).judged (firstUnmet t w))) ∧
        (∀ e, r.engine = some e → (s.src x).pair = none → GrantsJudged s →
          let left := (s.eng e).consumers.put z false
          let waiting := s.de.wait.filter (fun w => w != z)
          (t.zone z).engine = none ∧
          if left ≠ .empty then t.eng e = { s.eng e with consumers := left } ∧ t.de.wait = waiting
          else match waiting.find? (fun w => needsEngine s w) with
            | none =>
              (t.eng e).state = .free ∧ (t.eng e).bound = none ∧ (t.eng e).consumers = .empty ∧ (t.eng e).loaded = none ∧
                (t.eng e).loadTime = none ∧ t.de.wait = waiting
            | some g =>
              let y := (s.zone g).source
              ∀ rate, (s.src y).rate = some rate → (s.zone g).state = .acquiring →
                (t.eng e).state = .loading ∧ (t.eng e).bound = some y ∧ (t.eng e).loadTime = some 5 ∧
                (t.eng e).frameErrors = 0 ∧ (t.eng e).consumers.has g = true ∧ (t.src y).engine = some e ∧
                t.de.wait = waiting.filter (fun w => (s.zone w).source != y) ∧
                ∀ w, waiting.contains w = true → (s.zone w).source = y →
                  (t.zone w).engine = some e ∧ (t.eng e).consumers.has w = true))

/-! ## Trims and dialogue lift -/

/-- SOURCE_TRIM, CHANNEL_TRIM and DIALOGUE clamp and store their value and cut the outputs that stand above a lowered limit level; no notice is posted.
The model records MAIN's last origin at every DIALOGUE. -/
def Obligations.TrimsClampAndCut : Prop :=
  ∀ (h : ReqHead) (trim : Int) (s : State),
    (arrives h 0x0A s = true →
      match srcOfId h.target.toNat with
      | none => exec (.sourceTrim h trim) s = .next (s.answer h 0x0A .badArgument 0 [])
      | some x =>
        let v := max (-12) (min 12 trim)
        let t := s.setSrc x { s.src x with trim := v }
        exec (.sourceTrim h trim) s = .next
          ((t.withLevels (fun o => if (outZone s o).map (fun z => (s.zone z).source) = some x then cutLevel t o else s.lev o)).answer
            h 0x0A (if trim = v then .ok else .clamped) 0 [BitVec.ofInt 8 v])) ∧
    (arrives h 0x11 s = true →
      match outOfCode h.target.toNat with
      | none => exec (.channelTrim h trim) s = .next (s.answer h 0x11 .badArgument 0 [])
      | some o =>
        let v := max (-24) (min 24 trim)
        let t : State := match o with
          | .ac c => s.setChan c { s.chan c with trim := v }
          | .line l => { s with lvu := { s.lvu with lineTrims := s.lvu.lineTrims.set l.idx v } }
        exec (.channelTrim h trim) s = .next
          ((t.withLevels (fun p => if p = o then cutLevel t p else s.lev p)).answer
            h 0x11 (if trim = v then .ok else .clamped) 0 [BitVec.ofInt 8 v])) ∧
    (arrives h 0x0D s = true →
      let v := max 0 (min 12 trim)
      let t : State := { s with zc := { s.zc with
        lift := v, zones := s.zc.zones.set 0 { s.zone .main with lastOrigin := h.link.origin } } }
      exec (.dialogue h trim) s = .next
        ((t.withLevels (fun p => if p = .ac .ac2 then cutLevel t p else s.lev p)).answer
          h 0x0D (if trim = v then .ok else .clamped) 0 [BitVec.ofInt 8 v]))

/-! ## Lock and classification (chapter 2) -/

/-- A failed attempt counts and waits 10 ms times 2^min(n, 6); the sixteenth ends in LOST. The wait's expiry opens a new attempt window, the count kept.
In LOST the activity detector arms, and a transition with the detector armed starts the attempts again; unarmed, it restarts the detector's quiet time.
The model's own choice where it rests on log entry 3. -/
def Obligations.AttemptsBackOffAndRestart : Prop :=
  (∀ (c : Clocked) (s : State),
      let r := s.src c.src
      let n := r.attempts + 1
      (if r.lock = .seeking then
        if n < 16 then
          exec (.attemptWindowExpiry c) s =
            .next (s.setSrc c.src { r with lock := .backoff, attempts := n, seqTimer := some (10 * 2 ^ min n 6) })
        else
          ∃ t, exec (.attemptWindowExpiry c) s = .next t ∧ t.settings = s.settings ∧ (t.src c.src).lock = .lost ∧
            (t.src c.src).attempts = 16 ∧ (t.src c.src).seqTimer = none ∧
            ∀ z, r.listeners.has z = true → (s.zone z).source = c.src → (s.zone z).state = .acquiring →
              (t.zone z).state = .acquiring ∧ (t.zone z).wait = some .lost
      else exec (.attemptWindowExpiry c) s = .next s) ∧
      exec (.backoffExpiry c) s = .next
        (if r.lock = .backoff then s.setSrc c.src { r with lock := .seeking, seqTimer := some 10 } else s)) ∧
  (∀ (c : Clocked) (s : State),
      let r := s.src c.src
      exec (.activityDetectorArm c) s = .next (if r.lock = .lost then s.setSrc c.src { r with armed := true } else s) ∧
      (if r.lock = .lost ∧ r.armed = true then
        ∃ t, exec (.activity c) s = .next t ∧ t.settings = s.settings ∧ (t.src c.src).lock = .seeking ∧
          (t.src c.src).attempts = 0 ∧ (t.src c.src).seqTimer = some 10 ∧ (t.src c.src).armed = false
      else
        exec (.activity c) s = .next (if r.lock = .lost then s.setSrc c.src { r with quiet := 0 } else s)))

/-- A lock in SEEKING at one of the seven rates makes the source LOCKED with its sync timer running and its listeners waiting for a format; any other rate is no lock.
Loss of lock removes format and rate, starts the attempts anew, and takes every PLAYING listener to ACQUIRING with reason LOCK and its outputs to the floor.
The model's own choice where it rests on log entry 3. -/
def Obligations.LockGainedAndLost : Prop :=
  (∀ (c : Clocked) (hz : Nat) (s : State),
      if (s.src c.src).lock = .seeking ∧ hz ∈ [32000, 44100, 48000, 88200, 96000, 176400, 192000] then
        ∃ t, exec (.lockAchieved c hz) s = .next t ∧ t.settings = s.settings ∧ t.tun = s.tun ∧ t.tlm = s.tlm ∧ t.fnc = s.fnc ∧
          (t.src c.src).lock = .locked ∧ (t.src c.src).attempts = 0 ∧ (t.src c.src).format = .none ∧
          (t.src c.src).rate.map Rate.hz = some hz ∧ (t.src c.src).ifRate.map Rate.hz = some hz ∧
          (t.src c.src).seqTimer = none ∧ (t.src c.src).syncTimer = some 64 ∧
          ∀ z, (s.src c.src).listeners.has z = true → (s.zone z).source = c.src → (s.zone z).state = .acquiring →
            (t.zone z).state = .acquiring ∧ (t.zone z).wait = some .format
      else exec (.lockAchieved c hz) s = .next s) ∧
  (∀ (c : Clocked) (s : State),
      if (s.src c.src).lock = .locked then
        ∃ t, exec (.lockLost c) s = .next t ∧ t.settings = s.settings ∧ t.tun = s.tun ∧ t.tlm = s.tlm ∧ t.fnc = s.fnc ∧
          (t.src c.src).lock = .seeking ∧ (t.src c.src).attempts = 0 ∧ (t.src c.src).format = .none ∧
          (t.src c.src).rate = none ∧ (t.src c.src).run.count = 0 ∧ (t.src c.src).seqTimer = some 10 ∧
          ∀ z, (s.src c.src).listeners.has z = true → (s.zone z).source = c.src → (s.zone z).state = .playing →
            (t.zone z).state = .acquiring ∧ (t.zone z).wait = some .lock ∧
            ∀ o, outZone s o = some z → (t.lev o).level = -160 ∧ (t.lev o).gain = 0
      else exec (.lockLost c) s = .next s)

/-- Without a sync word for the sync time a locked input carries PCM: a stream not PCM becomes PCM2, on MCI PCMM with the count of its lanes, at the interface rate; PCM that was silenced is heard again.
The lane timer of MCI runs exactly while the lanes differ from the PCMM channel count; its expiry takes the count of the lanes.
The model's own choice where it rests on log entries 3 and 29. -/
def Obligations.SyncAndLaneTimersExpire : Prop :=
  (∀ (c : Clocked) (s : State),
      let r := s.src c.src
      if r.lock = .locked ∧ r.syncTimer.isSome = true then
        if r.format = .pcm2 ∨ r.format = .pcmm then
          exec (.syncTimerExpiry c) s = .next (s.setSrc c.src { r with syncTimer := none, silenced := false })
        else
          ∃ t, exec (.syncTimerExpiry c) s = .next t ∧ t.settings = s.settings ∧ (t.src c.src).syncTimer = none ∧
            (t.src c.src).format = (if c = .mci then .pcmm else .pcm2) ∧ (t.src c.src).rate = r.ifRate ∧
            (t.src c.src).channels = (if c = .mci then some (laneCount s) else none)
      else exec (.syncTimerExpiry c) s = .next s) ∧
  (∀ (lane : Fin 4) (on : Bool) (s : State),
      (let t : State := { s with siu := { s.siu with lanes := s.siu.lanes.set lane on } }
        let r := s.src .mci
        let n := if t.siu.lanes.get 3 then 8 else if t.siu.lanes.get 2 then 6 else if t.siu.lanes.get 1 then 4 else 2
        exec (.laneActivity lane on) s = .next (t.setSrc .mci { r with
          laneTimer := if r.format = .pcmm ∧ r.channels ≠ some n then
              (match r.laneTimer with | some k => some k | none => some 64) else none })) ∧
      (if (s.src .mci).format = .pcmm ∧ (s.src .mci).laneTimer.isSome = true then
        ∃ t, exec .laneTimerExpiry s = .next t ∧ t.settings = s.settings ∧ (t.src .mci).format = .pcmm ∧
          (t.src .mci).channels = some (laneCount s) ∧ (t.src .mci).laneTimer = none ∧
          ∀ z, (s.src .mci).listeners.has z = true → (s.zone z).source = .mci → (s.zone z).state = .playing →
            ∀ o, outZone s o = some z → (t.lev o).level = -160
      else exec .laneTimerExpiry s = .next s))

/-- A frame on a locked input restarts the sync timer, counts a short frame, extends or restarts the frame run and silences PCM; the third frame of a run establishes its kind and rate.
A running engine takes a good frame of its source's stream as the last good frame and delivers it next; a frame in error counts, and until the eighth of a run the stream stands.
The end of a load makes the engine RUNNING for what it was loaded for, and where the engines' consumers agree with the zone records, as in every state a run reaches, every consumer in ACQUIRING is judged anew, with no pair and no engine changing hands: it plays at once where nothing else is unmet.
The model's own choice where it rests on log entries 3, 11, 29, 30, 31 and 49. -/
def Obligations.FramesEstablishAndFeed : Prop :=
  (∀ (c : Clocked) (f : FrameIn) (s : State),
      let r := s.src c.src
      if r.lock = .locked then
        ∃ t, exec (.codedFrame c f) s = .next t ∧ t.settings = s.settings ∧ (t.src c.src).lock = .locked ∧
          (t.src c.src).syncTimer = some 64 ∧
          match judgeFrame f with
          | .valid k rate =>
            let n := if r.run.stream = some (k, rate) ∧ 0 < r.run.count then min 3 (r.run.count + 1) else 1
            (t.src c.src).shortFrames = r.shortFrames ∧
              (n = 3 → r.format ≠ k.format ∨ r.rate ≠ some rate →
                (t.src c.src).format = k.format ∧ (t.src c.src).rate = some rate ∧ (t.src c.src).channels = none) ∧
              (n < 3 → r.format ≠ .codedA → r.format ≠ .codedB →
                t = s.setSrc c.src { r with
                  syncTimer := some 64, run := ⟨n, some (k, rate)⟩, silenced := r.silenced || r.format != .none })
          | .short => (t.src c.src).shortFrames = min 65535 (r.shortFrames + 1) ∧ (t.src c.src).run.count = 0
          | .malformed => (t.src c.src).shortFrames = r.shortFrames ∧ (t.src c.src).run.count = 0
      else exec (.codedFrame c f) s = .next s) ∧
  (∀ (c : Clocked) (f : FrameIn) (e : EngineId) (k : CodedKind) (rate : Rate) (s : State),
      let r := s.src c.src
      let g := s.eng e
      r.lock = .locked → r.format = k.format → r.rate = some rate → r.engine = some e →
      g.state = .running → g.mode = .decode →
      (judgeFrame f = .valid k rate → f.checkGood = true →
        exec (.codedFrame c f) s = .next ((s.setSrc c.src (r.takeFrame (.valid k rate))).setEng e { g with
          roles := f.roles, errorRun := 0, lastGood := some ⟨k, f.content, f.roles⟩
          delivery := g.delivery ++ [⟨some (k, f.content), f.roles, 0, if k = .a then 1536 else 512⟩] })) ∧
      (judgeFrame f = .malformed → g.errorRun < 7 →
        exec (.codedFrame c f) s = .next ((s.setSrc c.src (r.takeFrame .malformed)).setEng e (g.error (if k = .a then 1536 else 512))) ∧
        (g.error (if k = .a then 1536 else 512)).frameErrors = min 65535 (g.frameErrors + 1) ∧
        (g.error (if k = .a then 1536 else 512)).errorRun = g.errorRun + 1)) ∧
  (∀ (e : EngineId) (s : State),
      if (s.eng e).state = .loading then
        ∃ t, exec (.loadEnd e) s = .next t ∧ t.settings = s.settings ∧ (t.eng e).state = .running ∧
          (t.eng e).loadTime = none ∧ (t.eng e).loaded = (s.eng e).loaded ∧ (t.eng e).bound = (s.eng e).bound ∧
          (ConsumersAgree s → t.siu = s.siu ∧ t.de.wait = s.de.wait ∧
            ∀ z, (s.eng e).consumers.has z = true → (s.zone z).state = .acquiring → (t.zone z).judged (firstUnmet t z)) ∧
          t.tun = s.tun ∧ t.tlm = s.tlm ∧ t.fnc = s.fnc ∧ t.kpp = s.kpp
      else exec (.loadEnd e) s = .next s)

/-! ## Engines, mapping and samples (chapters 3 and 4) -/

/-- MAIN_MODE stores the listening mode; a PLAYING zone whose need of an engine changes re-acquires its source through a drain.
BASS_CONFIG and DOWNMIX_CONFIG replace the mapper's settings together, refuse every code outside their tables, and change no zone.
The model's own choice where it rests on log entries 4, 17, 21 and 28. -/
def Obligations.MainSoundSettings : Prop :=
  (∀ (h : ReqHead) (code : Nat) (s : State), arrives h 0x0C s = true →
      match modeOfCode code with
      | none => exec (.mainMode h code) s = .next (s.answer h 0x0C .badArgument 0 [])
      | some m =>
        let r := s.zone .main
        let o := h.link.origin
        let t : State := { s with zc := { s.zc with mode := m, zones := s.zc.zones.set 0 { r with lastOrigin := o } } }
        if m = s.zc.mode then exec (.mainMode h code) s = .next (s.answer h 0x0C .ok 0 [BitVec.ofNat 8 code])
        else if r.state = .standby ∨ r.state = .switching ∨ needsEngineIn s s.zc.mode .main = needsEngineIn s m .main then
          exec (.mainMode h code) s = .next (t.answer h 0x0C .ok 0 [BitVec.ofNat 8 code])
        else if r.state = .playing then
          let u := ({ t with
            zc := { t.zc with
              zones := s.zc.zones.set 0 { r with
                pending := some r.source, standbyFlag := false, switchOrigin := some o, state := .switching, lastOrigin := o } }
            cmap := { t.cmap with filters := .replicate 9 .zero } } : State).fading s .main
          exec (.mainMode h code) s = .next ((u.posted [(.zoneState .main .switching none, o)]).answer h 0x0C .ok 0 [BitVec.ofNat 8 code])
        else
          ∃ v, exec (.mainMode h code) s = .next v ∧ hasAnswer h 0x0C .ok [BitVec.ofNat 8 code] s v = true ∧
            v.settings = { s.settings with mode := m } ∧ (v.zone .main).judged (firstUnmet v .main)) ∧
  (∀ (h : ReqHead) (a : BassArgs) (d : DownmixArgs) (s : State),
      (arrives h 0x0E s = true →
        if 1 < a.front ∨ 1 < a.centre ∨ 1 < a.surround ∨ 1 < a.back ∨ 1 < a.height ∨ a.crossover < 40 ∨ 200 < a.crossover ∨
            a.crossover % 10 ≠ 0 then
          exec (.bassConfig h a) s = .next (s.answer h 0x0E .badArgument 0 [])
        else
          let g := fun (n : Nat) => if n = 0 then GroupSize.large else .small
          let m := { s.cmap with
            front := g a.front, centre := g a.centre, surround := g a.surround, back := g a.back, height := g a.height
            crossover := a.crossover, sub := a.sub }
          let t : State := { s with cmap := m }
          exec (.bassConfig h a) s = .next
            (({ s with cmap := if a.sub = s.cmap.sub then m else { m with layout := mainLayout t } } : State).answer h 0x0E .ok 0 [])) ∧
      (arrives h 0x0F s = true →
        match coefOfCode d.c, coefOfCode d.s, coefOfCode d.b, coefOfCode d.h with
        | some c, some su, some b, some hh =>
          exec (.downmixConfig h d) s = .next
            (({ s with cmap := { s.cmap with cCoef := c, sCoef := su, bCoef := b, hCoef := hh, pad := d.pad } } : State).answer
              h 0x0F .ok 0 [])
        | _, _, _, _ => exec (.downmixConfig h d) s = .next (s.answer h 0x0F .badArgument 0 [])))

/-- A sample period of a source with a rate reaches every output of every zone that takes it: PCM2, PCMM by its lanes, or what the source's engine delivers, mixed for the zone (fold-down, STEREO and bass management on MAIN, the downmix on Z2 and Z3), scaled by the gain word, rounded, saturated, a clip counted.
A source without a rate delivers nothing; the tuner delivers its mono sum while its stereo flag is false.
The model's own choice where it rests on log entries 6, 10, 28, 29, 31 and 32. -/
def Obligations.SamplePeriodScalesAndSaturates : Prop :=
  ∀ (x : RoleSamples) (src : Src) (s : State),
    match (s.src src).rate with
    | none => exec (.samplePeriod src x) s = .next s
    | some rate =>
      let term := fun (v w : Int) => (v * w + 524288) / 1048576
      let r := s.src src
      let m := s.cmap
      let lane := fun (i : Fin 4) (v : Int) => if s.siu.lanes.get i = true then v else 0
      let mono : Int := (Config.monoSum (BitVec.ofInt 24 x.fl) (BitVec.ofInt 24 x.fr)).toInt
      let isMono := src = .tuner ∧ s.tun.stereo = false
      -- what the source delivers as PCM, and what its engine delivers
      let pcm : Role → Int := fun q =>
        if r.silenced = true then 0
        else match r.format, q with
          | .pcm2, .fl => if isMono then mono else x.fl
          | .pcm2, .fr => if isMono then mono else x.fr
          | .pcmm, .fl => lane 0 x.fl
          | .pcmm, .fr => lane 0 x.fr
          | .pcmm, .c => lane 1 x.c
          | .pcmm, .lfe => lane 1 x.lfe
          | .pcmm, .sl => lane 2 x.sl
          | .pcmm, .sr => lane 2 x.sr
          | .pcmm, .sbl => lane 3 x.sbl
          | .pcmm, .sbr => lane 3 x.sbr
          | _, _ => 0
      let engine : EngineId → Role → Int := fun e q =>
        match (s.eng e).state, (s.eng e).mode with
        | .running, .upmix => match q with
          | .fl => pcm .fl
          | .fr => pcm .fr
          | .c => term (pcm .fl + pcm .fr) 525533
          | .sl => term (pcm .fl - pcm .fr) 525533
          | .sr => -(term (pcm .fl - pcm .fr) 525533)
          | _ => 0
        | .running, .decode => match (s.eng e).delivery with
          | [] => 0
          | g :: _ => match g.frame with
            | none => 0
            | some (k, content) => if g.roles.has q then (Config.codecSample k content q g.pos).toInt else 0
        | _, _ => 0
      let feed : ZoneId → Role → Int := fun z q => match r.engine with
        | none => pcm q
        | some e => if (s.zone z).engine = some e then engine e q else pcm q
      -- the downmix, which is also MAIN's front pair in STEREO
      let word : Coef → Int := fun k => match k with
        | .db0 => 1048576 | .db3 => 742335 | .db45 => 624597 | .db6 => 525533 | .off => 0
      let left := fun (z : ZoneId) => feed z .fl + term (feed z .c) (word m.cCoef) + term (feed z .sl) (word m.sCoef) +
        term (feed z .sbl) (word m.bCoef) + term (feed z .hl) (word m.hCoef)
      let right := fun (z : ZoneId) => feed z .fr + term (feed z .c) (word m.cCoef) + term (feed z .sr) (word m.sCoef) +
        term (feed z .sbr) (word m.bCoef) + term (feed z .hr) (word m.hCoef)
      let pad := fun (v : Int) => if m.pad then term v 525533 else v
      -- MAIN's roles before bass management
      let y := feed .main
      let l := m.layout
      let fold := fun (inLayout : Bool) (v : Int) => if inLayout then 0 else term v 742335
      let keep := fun (inLayout : Bool) (v : Int) => if inLayout then v else 0
      let mix : SpkRole → Int := fun q =>
        if s.zc.mode = .stereo then
          match q with
          | .fl => left .main + fold l.sw (y .lfe)
          | .fr => right .main + fold l.sw (y .lfe)
          | _ => 0
        else match q with
          | .fl => y .fl + fold l.hl (y .hl) + fold l.sw (y .lfe)
          | .fr => y .fr + fold l.hr (y .hr) + fold l.sw (y .lfe)
          | .c => y .c
          | .sl => y .sl + fold l.sbl (y .sbl)
          | .sr => y .sr + fold l.sbr (y .sbr)
          | .sbl => keep l.sbl (y .sbl)
          | .sbr => keep l.sbr (y .sbr)
          | .hl => keep l.hl (y .hl)
          | .hr => keep l.hr (y .hr)
          | .l | .r => 0
      -- bass management: the roles of SMALL groups pass two high-pass sections, and two low-pass sections give their part for SW
      let small : SpkRole → Bool := fun q => m.sub && match s.zc.mode, q with
        | .direct, _ => false
        | _, .fl => m.front == .small && l.fl
        | _, .fr => m.front == .small && l.fr
        | .stereo, _ => false
        | _, .c => m.centre == .small && l.c
        | _, .sl => m.surround == .small && l.sl
        | _, .sr => m.surround == .small && l.sr
        | _, .sbl => m.back == .small && l.sbl
        | _, .sbr => m.back == .small && l.sbr
        | _, .hl => m.height == .small && l.hl
        | _, .hr => m.height == .small && l.hr
        | _, .l => false
        | _, .r => false
      let nine : List SpkRole := [.fl, .fr, .c, .sl, .sr, .sbl, .sbr, .hl, .hr]
      let place : SpkRole → Fin 9 := fun q => ⟨min 8 (nine.findIdx (fun k => k == q)), by omega⟩
      let lohi := crossover m.crossover rate.hz
      let out := fun (k : Coeffs) (q : Section) (v : Int) =>
        (k.b0 * v + k.b1 * q.x1 + k.b2 * q.x2 - k.a1 * q.y1 - k.a2 * q.y2 + 134217728) / 268435456
      let next := fun (k : Coeffs) (q : Section) (v : Int) => (⟨v, q.x1, out k q v, q.y1⟩ : Section)
      let f := fun (q : SpkRole) => m.filters.get (place q)
      let high := fun (q : SpkRole) => out lohi.2 (f q).high2 (out lohi.2 (f q).high1 (mix q))
      let low := fun (q : SpkRole) => out lohi.1 (f q).low2 (out lohi.1 (f q).low1 (mix q))
      let role := fun (q : SpkRole) => if small q then high q else mix q
      let sw := keep l.sw (y .lfe) + (nine.map (fun q => if small q then low q else 0)).sum
      -- the outputs
      let takes := fun (z : ZoneId) => (s.zone z).source == src && ((s.zone z).state == .playing || (s.zone z).state == .switching)
      let mixed : OutId → Int := fun o => match o with
        | .line .sw1 | .line .sw2 => sw
        | .line .z2l => pad (left .z2)
        | .line .z2r => pad (right .z2)
        | .line .z3l => pad (left .z3)
        | .line .z3r => pad (right .z3)
        | .ac c => match (s.chan c).assign with
          | some ⟨.main, q⟩ => role q
          | some ⟨.z2, .l⟩ => pad (left .z2)
          | some ⟨.z2, .r⟩ => pad (right .z2)
          | some ⟨.z3, .l⟩ => pad (left .z3)
          | some ⟨.z3, .r⟩ => pad (right .z3)
          | _ => 0
      let v := fun (o : OutId) => term (mixed o) (s.lev o).gain
      ∃ t, exec (.samplePeriod src x) s = .next t ∧ t.zc = s.zc ∧ t.siu = s.siu ∧ t.acc = s.acc ∧ t.lnk = s.lnk ∧
        t.tun = s.tun ∧ t.sdd = s.sdd ∧ t.kpp = s.kpp ∧ t.fnc = s.fnc ∧ t.de.wait = s.de.wait ∧
        (∀ e, t.eng e = if r.engine = some e ∧ (s.eng e).state = .running ∧ (s.eng e).mode = .decode then
            { s.eng e with delivery := match (s.eng e).delivery with
              | [] => []
              | g :: rest => if g.pos + 1 < g.len then { g with pos := g.pos + 1 } :: rest else rest }
          else s.eng e) ∧
        (t.cmap = { m with filters := t.cmap.filters }) ∧
        (∀ q ∈ nine, t.cmap.filters.get (place q) =
          if takes .main = true ∧ (s.zone .main).state = .playing ∧ small q = true then
            ⟨next lohi.2 (f q).high1 (mix q), next lohi.2 (f q).high2 (out lohi.2 (f q).high1 (mix q)),
              next lohi.1 (f q).low1 (mix q), next lohi.1 (f q).low2 (out lohi.1 (f q).low1 (mix q))⟩
          else f q) ∧
        (∀ z, t.guard z = if takes z = true then
            { s.guard z with pos := if (s.guard z).pos + 1 < rate.hz then (s.guard z).pos + 1 else 0 } else s.guard z) ∧
        ∀ o, if (match outZone s o with | none => false | some z => takes z) = true then
            t.lvu.samples.get o.idx = max (-8388608) (min 8388607 (v o)) ∧
            t.lev o = (if v o < -8388608 ∨ 8388607 < v o then
              { s.lev o with clips := min 65535 ((s.lev o).clips + 1), clipFlag := true } else s.lev o)
          else t.lvu.samples.get o.idx = s.lvu.samples.get o.idx ∧ t.lev o = s.lev o

/-! ## Levels (chapter 4) -/

/-- Every ramp step computes each output's target from its terms, moves the applied level toward it by the zone's rate, or by 8 while the zone switches or the channel drains, sets the gain word, and reports the floor.
The model's own choice where it rests on log entry 4. -/
def Obligations.RampStepMovesLevels : Prop :=
  ∀ (s : State),
    let target := fun (o : OutId) => match outZone s o with
      | none => (-160 : Int)
      | some z =>
        let r := s.zone z
        let v := if s.sdd.ann.taken.has z then min r.ceiling (max r.volume r.minLevel) else r.volume
        let quiet := match o with
          | .ac c => (s.chan c).state != .active
          | .line _ => false
        let trim := match o with
          | .ac c => (s.chan c).trim + (if c = .ac2 then s.zc.lift else 0) + (s.heat c.pkg).derate
          | .line l => s.lvu.lineTrims.get l.idx
        if r.state ≠ .playing ∨ r.mute = true ∨ quiet = true ∨ v = -160 then -160
        else max (-160) (min 36 (v + trim + (s.src r.source).trim + (s.guard z).guard))
    let level := fun (o : OutId) => match outZone s o with
      | none => (-160 : Int)
      | some z =>
        let draining := match o with
          | .ac c => (s.chan c).state == .draining
          | .line _ => false
        let rate : Int := if (s.zone z).state = .switching ∨ draining = true then 8 else (s.zone z).ramp
        let a := (s.lev o).level
        if a < target o then min (target o) (a + rate) else if target o < a then max (target o) (a - rate) else a
    let gain := fun (o : OutId) => match o with
      | .ac c => if (s.chan c).state = .active then gainEntry (level o) else 0
      | .line _ => gainEntry (level o)
    ∃ t, exec .rampStep s = .next t ∧ t.settings = s.settings ∧ t.lnk = s.lnk ∧ t.tlm = s.tlm ∧ t.siu = s.siu ∧
      t.lvu.rampTimer = 1 ∧
      (∀ o, t.lev o = { s.lev o with target := target o, level := level o, gain := gain o }) ∧
      (∀ z, t.zone z = s.zone z ∧ (t.zc.floorReport.has z = true ↔
        (s.zone z).state = .switching ∧ ∀ o, outZone s o = some z → level o = -160)) ∧
      (∀ c, t.chan c = s.chan c ∧ (t.acc.floorReport.get c.idx = true ↔ level (.ac c) = -160))

/-- Each entry of the gain table is 2^20 times 10^(A/40) rounded to the nearest integer, and the floor has gain word 0. -/
def Obligations.GainTableIsRounded : Prop :=
  gainEntry (-160) = 0 ∧
  (∀ a ∈ List.range 37, (2 * gainEntry a - 1) ^ 40 ≤ 2 ^ 840 * 10 ^ a ∧ 2 ^ 840 * 10 ^ a < (2 * gainEntry a + 1) ^ 40) ∧
  (∀ a ∈ List.range 160, (2 * gainEntry (-(a : Int)) - 1) ^ 40 * 10 ^ a ≤ 2 ^ 840 ∧
    2 ^ 840 < (2 * gainEntry (-(a : Int)) + 1) ^ 40 * 10 ^ a)

/-- The end of a clip window sums and clears the clip counts of the zone's outputs and steps the guard: down by 1 at a nonzero limit reached, else up by 1 after ten quiet windows.
The derate timer steps a package's derate down in WARM and HOT every 500 ms, not below -40, and up in NORMAL every 2,000 ms, not above 0.
The model's own choice where it rests on log entries 3 and 6. -/
def Obligations.GuardAndDerateStep : Prop :=
  (∀ (z : ZoneId) (s : State),
      let g := s.guard z
      let sum := ((OutId.all.filter (fun o => outZone s o == some z)).map (fun o => (s.lev o).clips)).sum
      let next := if g.limit ≠ 0 ∧ g.limit ≤ sum then { g with guard := if g.guard ≤ -12 then g.guard else g.guard - 1, quiet := 0, pos := 0 }
        else if g.quiet < 9 then { g with quiet := g.quiet + 1, pos := 0 }
        else { g with quiet := 0, guard := if g.guard < 0 then g.guard + 1 else g.guard, pos := 0 }
      exec (.clipWindowEnd z) s = .next
        (if (s.zone z).state = .playing ∨ (s.zone z).state = .switching then
          (s.withLevels (fun o => if outZone s o = some z then { s.lev o with clips := 0, clipFlag := false } else s.lev o)).setGuard z next
        else s)) ∧
  (∀ (p : PkgId) (s : State),
      let r := s.heat p
      exec (.derateStep p) s = .next (s.setHeat p (match r.heat with
        | .normal => { r with derate := if r.derate < 0 then r.derate + 1 else r.derate, timer := 2000 }
        | .warm | .hot => { r with derate := if -40 < r.derate then r.derate - 1 else r.derate, timer := 500 })))

/-! ## Amplifier channels (chapter 5) -/

/-- AMP_ASSIGN: CHAIN_SHORT where its slots have no room for the list; refused when the list is empty or too long, names a channel that does not exist, a channel twice or what a channel cannot carry, or when the result would carry a role twice or split a pair; BUSY while another is in flight.
With nothing to change it answers the assignment; with no changing channel draining it swaps at once; otherwise it stays in flight while its ACTIVE and ENABLING channels drain.
The model's own choice where it rests on log entries 14 and 17. -/
def Obligations.AmpAssignDrainsThenSwaps : Prop :=
  ∀ (h : ReqHead) (list : List AssignEntry) (s : State), arrives h 0x13 s = true →
    let able : List (List (Nat × Nat)) := [[(0, 0)], [(0, 1)], [(0, 2)], [(0, 3)], [(0, 4)], [(0, 5), (1, 9)], [(0, 6), (1, 10)],
      [(0, 7), (1, 9), (2, 9)], [(0, 8), (1, 10), (2, 10)], [(1, 9), (2, 9)], [(1, 10), (2, 10)]]
    let named : Nat × Nat → Option Assign := fun x => match zoneOfCode x.1, spkRoleOfCode x.2 with
      | some z, some q => some ⟨z, q⟩
      | _, _ => none
    let given : ChanId → Option Assign := fun c => match list.find? (fun e => e.channel == c.idx.val) with
      | some e => e.target.bind named
      | none => (s.chan c).assign
    let carried := fun (q : SpkRole) => ChanId.all.any (fun c => given c == some ⟨.main, q⟩)
    let entryBad := fun (e : AssignEntry) => match e.target with
      | none => decide (e.channel < 5 ∨ 10 < e.channel)
      | some x => !((able.getD e.channel []).contains x)
    let bad := decide (list = [] ∨ 11 < list.length) || list.any entryBad || !decide (list.map AssignEntry.channel).Nodup ||
      ChanId.all.any (fun c => ChanId.all.any (fun d => c != d && (given c).isSome && given c == given d)) ||
      carried .sbl != carried .sbr || carried .hl != carried .hr
    if 11 + 14 * (h.slots - 1) < 1 + 3 * list.length then
      exec (.ampAssign h list) s = .next (s.answer h 0x13 .chainShort 0 [])
    else if bad = true then exec (.ampAssign h list) s = .next (s.answer h 0x13 .badArgument 0 [])
    else
      let r : Tab 11 (Option Assign) := ⟨ChanId.all.map given, rfl⟩
      let differs := fun (c : ChanId) => given c != (s.chan c).assign
      let playing := fun (c : ChanId) => (s.chan c).state == .active || (s.chan c).state == .enabling
      if s.acc.reassign.isSome = true ∨ s.acc.check.any (fun k => differs k.channel) = true then
        exec (.ampAssign h list) s = .next (s.answer h 0x13 .busy 0 [])
      else if ChanId.all.any differs = false then
        exec (.ampAssign h list) s = .next (s.answer h 0x13 .ok 0 (r.entries.map assignCode))
      else if ChanId.all.any (fun c => differs c && playing c) = true then
        ∃ t, exec (.ampAssign h list) s = .next t ∧ isInFlight h s t = true ∧ t.settings = s.settings ∧
          t.acc.reassign = some ⟨r, ticketAt (s.link h.link) h 0x13⟩ ∧ t.lvu.levels.entries.map LevelRec.level = s.lvu.levels.entries.map LevelRec.level ∧
          ∀ c, differs c = true → (t.chan c).changing = true ∧
            (t.chan c).state = (if playing c = true then .draining else (s.chan c).state) ∧
            (playing c = true → (t.lev (.ac c)).gain = 0)
      else
        (∀ c, (s.chan c).changing = true → (s.chan c).state ≠ .draining) → (∀ c, differs c = true → (s.chan c).state ≠ .draining) →
        ∃ t, exec (.ampAssign h list) s = .next t ∧ hasAnswer h 0x13 .ok (r.entries.map assignCode) s t = true ∧
          t.acc.reassign = none ∧ (∀ c, differs c = true → (t.chan c).assign = r.get c.idx ∧ (t.chan c).changing = false) ∧
          t.cmap.layout = mainLayout t

/-- A channel reported at the floor enters IDLE when its zone has left PLAYING, or from ENABLING when its package is LATCHED.
The swap comes when every draining channel of the reassignment in flight is reported at the floor: the changing channels take their assignment, their clip counts are cleared, the layout is computed anew and nothing is changing any longer.
The model's own choice where it rests on log entry 4. -/
def Obligations.FloorMovesChannels : Prop :=
  (∀ (c : ChanId) (s : State),
      let r := s.chan c
      let plays := match r.assign with
        | none => false
        | some a => (s.zone a.zone).state == .playing
      if s.acc.floorReport.get c.idx = true ∧
          ((r.state = .active ∨ r.state = .enabling) ∧ plays = false ∨ r.state = .enabling ∧ (s.pkg c.pkg).power = .latched) then
        ∃ t, exec (.channelFloorIdle c) s = .next t ∧ (t.chan c).state = .idle ∧ (t.lev (.ac c)).gain = 0 ∧
          t.settings = s.settings ∧ t.zc = s.zc ∧ t.tlm = s.tlm ∧ (∀ d, d.pkg ≠ c.pkg → t.chan d = s.chan d) ∧
          ∀ p, p ≠ c.pkg → t.pkg p = s.pkg p
      else exec (.channelFloorIdle c) s = .next s) ∧
  (∀ (s : State),
      match s.acc.reassign with
      | none => exec .reassignmentSwap s = .next s
      | some k =>
        if ChanId.all.all (fun c => !(s.chan c).changing || (s.chan c).state != .draining || s.acc.floorReport.get c.idx) = true then
          ∃ t, exec .reassignmentSwap s = .next t ∧ t.acc.reassign = none ∧ t.cmap.layout = mainLayout t ∧ t.zc = s.zc ∧
            t.tlm = s.tlm ∧
            ∀ c, (t.chan c).assign = (if (s.chan c).changing then k.result.get c.idx else (s.chan c).assign) ∧
              (t.chan c).changing = false ∧ (t.chan c).trim = (s.chan c).trim ∧
              ((s.chan c).changing = true → (t.lev (.ac c)).clips = 0 ∧ (t.chan c).state ≠ .draining) ∧
              ((s.chan c).state = .fault ∨ (s.chan c).state = .latched → (t.chan c).state = (s.chan c).state)
        else exec .reassignmentSwap s = .next s)

/-- LINE_CHECK: BAD_ARGUMENT for no channel, BUSY while another is in flight, NOT_AVAILABLE unless the channel is IDLE, silent, unchanging and on a free package; otherwise the channel enters TESTING, and its counter starts with its package ON.
The end of a line check's measurement gives the count and its verdict, 0 to 7 SHORT, 8 to 1022 LOADED, 1023 OPEN, to the channel record and to the slot.
The model's own choice where it rests on log entries 17 and 44. -/
def Obligations.LineCheckRunsToVerdict : Prop :=
  (∀ (h : ReqHead) (s : State), arrives h 0x14 s = true →
      match chanOfCode h.target.toNat with
      | none => exec (.lineCheck h) s = .next (s.answer h 0x14 .badArgument 0 [])
      | some c =>
        let p := s.pkg c.pkg
        let sounding := match (s.chan c).assign with
          | none => false
          | some a => (s.zone a.zone).state == .playing || (s.zone a.zone).state == .switching
        if s.acc.check.isSome then exec (.lineCheck h) s = .next (s.answer h 0x14 .busy 0 [])
        else if (s.chan c).state ≠ .idle ∨ sounding = true ∨ ((s.chan c).changing = true ∧ s.acc.reassign.isSome = true) ∨
            p.power = .latched ∨ p.holds.thermal = true ∨ p.holds.rail = true then
          exec (.lineCheck h) s = .next (s.answer h 0x14 .notAvailable 0 [])
        else
          ∃ t, exec (.lineCheck h) s = .next t ∧ isInFlight h s t = true ∧ t.settings = s.settings ∧
            (t.chan c).state = .testing ∧ (t.pkg c.pkg).power ≠ .off ∧
            t.acc.check = some ⟨c, if (t.pkg c.pkg).power = .on then some 0 else none, ticketAt (s.link h.link) h 0x14⟩) ∧
  (∀ (elapsed : Nat) (s : State),
      let ended := fun (k : LineCheck) (count : Nat) (v : Verdict) (t : State) =>
        t.acc.check = none ∧ (t.chan k.channel).lastCheck = some (count, v) ∧ t.settings = s.settings ∧ t.zc = s.zc ∧
        (k.ticket.slots = 1 → (s.link k.ticket.link).gen = k.ticket.gen →
          (t.link k.ticket.link).slots.get k.ticket.slot = ⟨.done, resultRecord k.ticket.kind .ok k.ticket.tag k.ticket.target 0
            [BitVec.ofNat 8 (count / 256), BitVec.ofNat 8 count, match v with | .short => 0 | .loaded => 1 | .open => 2]⟩)
      match s.acc.check with
      | none => exec (.lineCheckCrossing elapsed) s = .next s ∧ exec .lineCheckCounterFull s = .next s
      | some k =>
        match k.counter with
        | none => exec (.lineCheckCrossing elapsed) s = .next s ∧ exec .lineCheckCounterFull s = .next s
        | some n =>
          let count := min 1023 (n + elapsed)
          (∃ t, exec (.lineCheckCrossing elapsed) s = .next t ∧
            ended k count (if count < 8 then .short else if count < 1023 then .loaded else .open) t) ∧
          ∃ t, exec .lineCheckCounterFull s = .next t ∧ ended k 1023 .open t)

/-- READY within the window takes the package ON with its miss count 0 and its ENABLING channels ACTIVE; otherwise only the pin's level is noted.
A READY window that runs out is a miss: the count rises, STAGE_SILENT is set, and the package waits 1, 2 or 4 seconds, or latches at the fourth with its notice. The end of the wait powers a package that is still needed.
The model's own choice where it rests on log entries 3, 4, 21, 43 and 46. -/
def Obligations.PackagePowersUpOrRetries : Prop :=
  (∀ (p : PkgId) (s : State),
      let t : State := { s with acc := { s.acc with ready := s.acc.ready.set p.idx true } }
      if (s.pkg p).power = .enabling then
        ∃ u, exec (.readyAsserted p) s = .next u ∧ u.settings = s.settings ∧ u.zc = s.zc ∧ u.tlm = s.tlm ∧ u.lnk = s.lnk ∧
          u.acc.ready = t.acc.ready ∧
          (∀ q, u.pkg q = if q = p then { s.pkg p with power := .on, misses := 0, timer := none } else s.pkg q) ∧
          (∀ c, u.chan c = if c.pkg = p ∧ (s.chan c).state = .enabling then { s.chan c with state := .active, cause := none } else s.chan c) ∧
          (∀ c, (u.lev (.ac c)).level = (s.lev (.ac c)).level ∧
            (c.pkg = p → (s.chan c).state = .enabling → (u.lev (.ac c)).gain = gainEntry (s.lev (.ac c)).level)) ∧
          ∀ k, s.acc.check = some k → k.channel.pkg = p → k.counter = none → u.acc.check = some { k with counter := some 0 }
      else exec (.readyAsserted p) s = .next t) ∧
  (∀ (p : PkgId) (s : State),
      let r := s.pkg p
      let n := min 4 (r.misses + 1)
      let needed := ChanId.all.any (fun c => c.pkg == p &&
        ((s.chan c).state == .enabling || (s.chan c).state == .active || (s.chan c).state == .testing))
      (if r.power = .enabling then
        if n < 4 then
          exec (.readyWindowExpiry p) s = .next ((s.flagged (.stageSilent p)).setPkg p
            { r with power := .retryWait, misses := n, timer := some (1000 * 2 ^ (n - 1)) })
        else
          ∃ t, exec (.readyWindowExpiry p) s = .next t ∧ t.settings = s.settings ∧ t.zc = s.zc ∧
            t.pkg p = { r with power := .latched, misses := 4, timer := none } ∧ t.flag (.stageSilent p) = true ∧
            (∀ c, t.acc.floorReport.get c.idx = (s.acc.floorReport.get c.idx &&
              !decide (c.pkg = p ∧ (s.chan c).state = .enabling ∧ chanPlays s c = true))) ∧
            ∀ l, (s.link l).mask.protect = true →
              (t.link l).overrun = true ∨ (t.link l).queue.getLast?.map Notice.body = some (.packageLatched p 4)
      else exec (.readyWindowExpiry p) s = .next s) ∧
      (if r.power = .retryWait then
        ∃ t, exec (.packageRetryExpiry p) s = .next t ∧ t.settings = s.settings ∧ t.zc = s.zc ∧ t.tlm = s.tlm ∧ t.lnk = s.lnk ∧
          t.pkg p = (if needed = false then { r with power := .off, timer := none }
            else if s.acc.ready.get p.idx = true then { r with power := .on, misses := 0, timer := none }
            else { r with power := .enabling, timer := some 20 })
      else exec (.packageRetryExpiry p) s = .next s))

/-- A package ON that loses READY takes a miss, waits 1,000 ms if still needed, and its ACTIVE channels fall silent in ENABLING; a package not ON only notes the pin's level.
The model's own choice where it rests on log entry 43. -/
def Obligations.LostReadySilencesPackage : Prop :=
  ∀ (p : PkgId) (s : State),
    let t : State := { s with acc := { s.acc with ready := s.acc.ready.set p.idx false } }
    if (s.pkg p).power = .on then
      ∃ u, exec (.readyLost p) s = .next u ∧ u.settings = s.settings ∧ u.zc = s.zc ∧ u.acc.ready = t.acc.ready ∧
        u.flag (.stageSilent p) = true ∧ (u.pkg p).misses = min 4 ((s.pkg p).misses + 1) ∧
        ((u.pkg p).power = .retryWait ∧ (u.pkg p).timer = some 1000 ∨ (u.pkg p).power = .off ∧ (u.pkg p).timer = none) ∧
        (∀ c, c.pkg = p → (s.chan c).state = .active → s.acc.check.map LineCheck.channel ≠ some c →
          (u.chan c).state = .enabling ∧ (u.lev (.ac c)).gain = 0 ∧ (u.lev (.ac c)).level = (s.lev (.ac c)).level ∧
          (u.pkg p).power = .retryWait) ∧
        ∀ c, c.pkg ≠ p → s.acc.check.map LineCheck.channel ≠ some c → u.chan c = s.chan c
    else exec (.readyLost p) s = .next t

/-- An overcurrent on a channel that is not driven is disregarded; on an ACTIVE or DRAINING channel it sets OC_SEEN and faults the channel with a retry wait of 1, 2 or 4 seconds, or latches it at the fourth; on the tested channel it ends the check SHORT.
The end of a retry wait returns the channel to IDLE, or leaves it faulted by the hold its package carries; sixty seconds of clean playing clear the retry count.
The model's own choice where it rests on log entries 3 and 44. -/
def Obligations.OvercurrentFaultsAndRetries : Prop :=
  (∀ (c : ChanId) (elapsed : Nat) (s : State),
      let r := s.chan c
      match r.state with
      | .idle | .enabling | .fault | .latched => exec (.overcurrent c elapsed) s = .next s
      | .active | .draining =>
        ∃ t, exec (.overcurrent c elapsed) s = .next t ∧ t.zc = s.zc ∧ t.flag (.ocSeen c.pkg) = true ∧
          (t.chan c).freeRun = 0 ∧ (t.lev (.ac c)).level = -160 ∧ (t.lev (.ac c)).gain = 0 ∧
          if r.retries < 3 then
            (t.chan c).state = .fault ∧ (t.chan c).cause = some .overcurrent ∧ (t.chan c).retries = r.retries + 1 ∧
              (t.chan c).retryWait = some (1000 * 2 ^ r.retries)
          else (t.chan c).state = .latched ∧ (t.chan c).cause = none ∧ (t.chan c).retries = r.retries
      | .testing =>
        match s.acc.check with
        | none => exec (.overcurrent c elapsed) s = .next (s.flagged (.ocSeen c.pkg))
        | some k =>
          if k.channel = c then
            ∃ t, exec (.overcurrent c elapsed) s = .next t ∧ t.zc = s.zc ∧ t.flag (.ocSeen c.pkg) = true ∧ t.acc.check = none ∧
              (t.chan c).lastCheck = some (match k.counter with | none => 0 | some n => min 1023 (n + elapsed), .short) ∧
              (t.chan c).retries = r.retries ∧ (t.chan c).freeRun = r.freeRun
          else exec (.overcurrent c elapsed) s = .next (s.flagged (.ocSeen c.pkg))) ∧
  (∀ (c : ChanId) (s : State),
      let r := s.chan c
      let p := s.pkg c.pkg
      (if r.state = .fault ∧ r.cause = some .overcurrent ∧ r.retryWait.isSome = true then
        if p.holds.thermal = true ∨ p.holds.rail = true then
          exec (.channelRetryExpiry c) s =
            .next (s.setChan c { r with retryWait := none, cause := some (if p.holds.thermal then .thermal else .rail) })
        else
          ∃ t, exec (.channelRetryExpiry c) s = .next t ∧ t.settings = s.settings ∧ t.zc = s.zc ∧ t.tlm = s.tlm ∧
            (t.chan c).retryWait = none ∧ (t.chan c).cause = none ∧ (t.chan c).retries = r.retries ∧
            (if chanPlays s c = true ∧ r.changing = false ∧ p.power ≠ .latched then
              (t.chan c).state = .enabling ∨ (t.chan c).state = .active else (t.chan c).state = .idle)
      else exec (.channelRetryExpiry c) s = .next s) ∧
      exec (.overcurrentFreeRun c) s = .next (if r.state = .active then s.setChan c { r with freeRun := 60000, retries := 0 } else s))

/-! ## Thermal and load monitor (chapter 6) -/

/-- PROT_LIMITS, CHAIN_SHORT in a single slot, is LOCKED under the lock and refuses a limit set outside its ranges; a valid one replaces the set, and an averaging count that changes discards the partial averages of its class alone.
CLIP_GUARD replaces its zone's clip limit and nothing else of the guard, unless the lock is set; PROT_LOCK sets the lock.
The model's own choice where it rests on log entries 14 and 36. -/
def Obligations.ProtectionSettingsUnderLock : Prop :=
  (∀ (h : ReqHead) (m : Limits) (s : State), arrives h 0x16 s = true →
      let counts := [1, 4, 16, 32]
      let valid := m.pkgWarn < m.pkgTrip ∧ m.pkgTrip ≤ 511 ∧ m.pkgHyst ≤ 255 ∧ m.pkgHyst < m.pkgTrip - m.pkgWarn ∧
        m.hsWarn < m.hsTrip ∧ m.hsTrip ≤ 511 ∧ m.hsHyst ≤ 255 ∧ m.hsHyst < m.hsTrip - m.hsWarn ∧
        m.railLow < m.railHigh ∧ m.railHigh ≤ 1023 ∧ m.railHyst ≤ 255 ∧ 2 * m.railHyst < m.railHigh - m.railLow ∧
        m.tempN ∈ counts ∧ m.railN ∈ counts
      if h.slots < 2 then exec (.protLimits h m) s = .next (s.answer h 0x16 .chainShort 0 [])
      else if s.tlm.lock = true then exec (.protLimits h m) s = .next (s.answer h 0x16 .locked 0 [])
      else if ¬ valid then exec (.protLimits h m) s = .next (s.answer h 0x16 .badArgument 0 [])
      else
        ∃ t, exec (.protLimits h m) s = .next t ∧ hasAnswer h 0x16 .ok [] s t = true ∧
          (s.acc.reassign = none → t.settings = { s.settings with limits := m }) ∧ t.tlm.limits = m ∧ t.zc = s.zc ∧ t.fnc = s.fnc ∧
          ∀ i, t.meas i = if (if i = .vr then m.railN = s.tlm.limits.railN else m.tempN = s.tlm.limits.tempN) then s.meas i
            else { s.meas i with sum := 0, count := 0 }) ∧
  (∀ (h : ReqHead) (n : Nat) (s : State),
      (arrives h 0x17 s = true →
        match zoneOfCode h.target.toNat with
        | none => exec (.clipGuard h n) s = .next (s.answer h 0x17 .badZone 0 [])
        | some z => exec (.clipGuard h n) s = .next
            (if s.tlm.lock then s.answer h 0x17 .locked 0 []
            else if 65535 < n then s.answer h 0x17 .badArgument 0 []
            else (s.setGuard z { s.guard z with limit := n }).answer h 0x17 .ok 0 [])) ∧
      (arrives h 0x18 s = true →
        exec (.protLock h) s = .next (({ s with tlm := { s.tlm with lock := true } } : State).answer h 0x18 .ok 0 [])))

/-- PROT_CLEAR releases the named latched channels and packages and clears exactly the named flags whose condition is then absent, answering the flags that remain.
The model's own choice where it rests on log entry 17. -/
def Obligations.ProtClearKeepsPresentConditions : Prop :=
  ∀ (h : ReqHead) (a : ClearArgs) (s : State), arrives h 0x19 s = true →
    ∃ t, exec (.protClear h a) s = .next t ∧ hasAnswer h 0x19 .ok (u24 t.tlm.flags.bits) s t = true ∧ t.settings = s.settings ∧
      t.zc = s.zc ∧ t.fnc = s.fnc ∧
      (∀ f, t.flag f = (s.flag f && !(a.flags.has f && !flagCondition t f))) ∧
      (∀ c, c ∈ a.channels → (s.chan c).state = .latched →
        (t.chan c).state ≠ .latched ∧ (t.chan c).retries = 0 ∧ (t.chan c).freeRun = 0) ∧
      (∀ p, a.packages.has p = true → (t.pkg p).misses = 0 ∧ (t.pkg p).power ≠ .latched) ∧
      ∀ c, c ∉ a.channels → (s.chan c).state = .latched → (t.chan c).state = .latched

/-- Each expiry of the sampling timer adds a sample to every input; the N-th forms the rounded average of the set and starts a new one.
A reading update takes the average formed: it becomes the valid reading; TH's moves the heatsink conditions; the package of the input, or with TH every package, takes the thermal state of R119, with its flags and its hold; the rail input moves the rail conditions by R122; and fans that follow the input compute their target.
The two-step form of an update is the model's (log entry 2).
The model's own choice where it rests on log entries 3 and 33. -/
def Obligations.SamplesBecomeReadings : Prop :=
  (∀ (x : SensorSamples) (s : State),
      x.wf = true →
      ∃ t, exec (.samplingTimer x) s = .next t ∧
        t = { s with tlm := { s.tlm with meas := t.tlm.meas, samplingTimer := 10 } } ∧
        ∀ i : Sensor,
          let m := s.meas i
          let n := if i = .vr then s.tlm.limits.railN else s.tlm.limits.tempN
          let sum := m.sum + x.get i
          t.meas i = if n ≤ m.count + 1 then { m with sum := 0, count := 0, due := some ((sum + n / 2) / n) }
            else { m with sum := sum, count := m.count + 1 }) ∧
  (∀ (i : Sensor) (s : State),
      match (s.meas i).due with
      | none => exec (.readingUpdate i) s = .next s
      | some v =>
        let lim := s.tlm.limits
        let hsWarm := if i ≠ .th then s.tlm.hsWarm
          else if s.tlm.hsWarm then decide (lim.hsWarn < v + lim.hsHyst) else decide (lim.hsWarn ≤ v)
        let hsTrip := if i ≠ .th then s.tlm.hsTrip
          else if s.tlm.hsTrip then decide (lim.hsWarn < v + lim.hsHyst) else decide (lim.hsTrip ≤ v)
        ∃ t, exec (.readingUpdate i) s = .next t ∧ (s.acc.reassign = none → t.settings = s.settings) ∧ t.zc = s.zc ∧
          t.meas i = { s.meas i with reading := v, valid := true, due := none } ∧
          (∀ j, j ≠ i → t.meas j = s.meas j) ∧
          (∀ f, (s.fan f).set.sensors.has i = true → (t.fan f).target = curveDuty (s.fan f).set (drivingTemp t f)) ∧
          t.tlm.hsWarm = hsWarm ∧ t.tlm.hsTrip = hsTrip ∧
          (∀ p : PkgId,
            let reads := fun (b : Nat → Bool) => if p.sensor = i then b v else (s.meas p.sensor).valid && b (s.meas p.sensor).reading
            let trip := reads (fun n => decide (lim.pkgTrip ≤ n)) || hsTrip
            let stalled := FanId.all.any (fun f => (s.fan f).stalled && ((s.fan f).set.sensors.has p.sensor || (s.fan f).set.sensors.th))
            let warm := reads (fun n => decide (lim.pkgWarn ≤ n)) || hsWarm || stalled
            let cool := reads (fun n => decide (n + lim.pkgHyst ≤ lim.pkgWarn))
            let old := (s.heat p).heat
            let next := match old with
              | .normal => if trip then Heat.hot else if warm then .warm else .normal
              | .warm => if trip then .hot else if cool && !warm then .normal else .warm
              | .hot => if cool && !hsTrip then (if warm then .warm else .normal) else .hot
            if p.sensor = i ∨ i = .th then
              t.heat p = { s.heat p with
                heat := next
                timer := if old = .normal ∧ next ≠ .normal then 500
                  else if old ≠ .normal ∧ next = .normal then 2000 else (s.heat p).timer } ∧
              (next ≠ .normal → old = .normal → t.flag (.warnSeen p) = true) ∧
              (next = .hot → old ≠ .hot → t.flag (.tripSeen p) = true ∧ (t.pkg p).holds.thermal = true) ∧
              (next ≠ .hot → old = .hot → (t.pkg p).holds.thermal = false)
            else t.heat p = s.heat p) ∧
          (i = .vr →
            let low := if s.tlm.railLow then decide (v < lim.railLow + lim.railHyst) else decide (v ≤ lim.railLow)
            let high := if s.tlm.railHigh then decide (lim.railHigh < v + lim.railHyst) else decide (lim.railHigh ≤ v)
            t.tlm.railLow = low ∧ t.tlm.railHigh = high ∧
              ((low || high) = true → (s.tlm.railLow || s.tlm.railHigh) = false → ∀ p, (t.pkg p).holds.rail = true) ∧
              ((low || high) = false → (s.tlm.railLow || s.tlm.railHigh) = true → ∀ p, (t.pkg p).holds.rail = false)))

/-! ## Fans (chapter 7) -/

/-- FAN_CURVE, CHAIN_SHORT in a single slot, is LOCKED under the lock and refuses settings outside R140; a valid one replaces all the settings of the fan, computes its target anew.
When a tach setting changed, the measurement and what the period had counted are discarded, the update timer restarts, and a measurement begins if the output duty is above 0; when none did, they stay but for a duty that leaves 0 or falls to 0.
The model's own choice where it rests on log entries 14 and 34. -/
def Obligations.FanCurveReplacesSettings : Prop :=
  ∀ (h : ReqHead) (a : FanSettings) (s : State), arrives h 0x1B s = true →
    let valid := a.t1 < a.t2 ∧ a.t2 < a.t3 ∧ a.t3 ≤ 511 ∧ a.d1 ≤ a.d2 ∧ a.d2 ≤ 255 ∧ 1 ≤ a.rampRate ∧ a.rampRate ≤ 255 ∧
      250 ≤ a.spinUpTime ∧ a.spinUpTime ≤ 2000 ∧ 1 ≤ a.tachLimit ∧ a.tachLimit ≤ 65533 ∧ a.edges ∈ [2, 3, 5, 9] ∧
      a.guard ∈ [8, 16, 32, 63] ∧ a.period ∈ [300, 500, 1000]
    if h.slots < 2 then exec (.fanCurve h a) s = .next (s.answer h 0x1B .chainShort 0 [])
    else if s.tlm.lock = true then exec (.fanCurve h a) s = .next (s.answer h 0x1B .locked 0 [])
    else
      match fanOfCode h.target.toNat with
      | none => exec (.fanCurve h a) s = .next (s.answer h 0x1B .badArgument 0 [])
      | some f =>
        if ¬ valid then exec (.fanCurve h a) s = .next (s.answer h 0x1B .badArgument 0 [])
        else
          let old := s.fan f
          let duty := curveDuty a (drivingTemp (s.setFan f { old with set := a }) f)
          let tachKept := a.edges = old.set.edges ∧ a.guard = old.set.guard ∧ a.ignoreEdges = old.set.ignoreEdges ∧
            a.slowMarking = old.set.slowMarking ∧ a.period = old.set.period
          ∃ t, exec (.fanCurve h a) s = .next t ∧ hasAnswer h 0x1B .ok [] s t = true ∧ t.zc = s.zc ∧
            (t.fan f).set = a ∧ (t.fan f).target = duty ∧ (t.fan f).stallRun = old.stallRun ∧ (t.fan f).stalled = old.stalled ∧
            (t.fan f).reading = old.reading ∧
            (t.fan f).current = (if duty = 0 ∧ a.snapToZero = true then 0 else old.current) ∧
            (t.fan f).tachTimer = (if tachKept then old.tachTimer else a.period) ∧
            (let out := fun (r : FanRec) => if r.spinUp.isSome then 255 else r.current
              let was := out old
              let now := out (t.fan f)
              let begun : Option TachMeas := some ⟨decide (now < 255), if now < 255 then some a.guard else none,
                if a.ignoreEdges then 3 else 0, 0, 0⟩
              if tachKept then
                (t.fan f).done = old.done ∧
                if was = 0 ∧ 0 < now ∧ old.meas = none then (t.fan f).meas = begun ∧ (t.fan f).partialEdges = old.partialEdges
                else if 0 < was ∧ now = 0 then
                  (t.fan f).meas = none ∧ (t.fan f).partialEdges = max old.partialEdges ((old.meas.map TachMeas.edges).getD 0)
                else (t.fan f).meas = old.meas ∧ (t.fan f).partialEdges = old.partialEdges
              else (t.fan f).done = none ∧ (t.fan f).partialEdges = 0 ∧
                (t.fan f).meas = if 0 < now then begun else none) ∧
            (duty ≠ 0 → old.current = 0 → old.spinUp = none → (t.fan f).spinUp = some a.spinUpTime) ∧
            (duty = 0 → (t.fan f).spinUp = none) ∧ ∀ g, g ≠ f → t.fan g = s.fan g

/-- A duty step moves each fan not in spin-up toward its target by at most its ramp rate; the end of a spin-up takes the target as it stands.
A tach edge within the guard is not counted, an ignored edge is discarded, the first counted edge starts the count, and the E-th completes the measurement unless the count has passed 65,533; an earlier edge at or past that count ends it incomplete; the end of the guard and the count's limit act on the measurement in progress alone.
At the tach update the reading comes from the period's measurement, the stall run and condition follow it, the fan's flag is set when a stall begins, and a new period starts, with a measurement whose hold turns the output fully on unless the output duty is 0.
The model's own choice where it rests on log entries 3, 32, 34 and 44. -/
def Obligations.DutyMovesTowardTarget : Prop :=
  (∀ (f : FanId) (s : State),
      let next := fun (r : FanRec) =>
        if r.spinUp.isSome then r.current
        else if r.current < r.target then min r.target (r.current + r.set.rampRate)
        else if r.target < r.current then max r.target (r.current - r.set.rampRate) else r.current
      (∃ t, exec .dutyStep s = .next t ∧ t = { s with fnc := { t.fnc with dutyTimer := 100 } } ∧
        ∀ g, (t.fan g).current = next (s.fan g) ∧ (t.fan g).target = (s.fan g).target ∧ (t.fan g).spinUp = (s.fan g).spinUp ∧
          (t.fan g).set = (s.fan g).set ∧ (t.fan g).reading = (s.fan g).reading ∧ (t.fan g).stalled = (s.fan g).stalled ∧
          (0 < (s.fan g).current → next (s.fan g) = 0 → (s.fan g).spinUp = none → (t.fan g).meas = none)) ∧
      if (s.fan f).spinUp.isSome = true then
        ∃ t, exec (.spinUpExpiry f) s = .next t ∧ t = { s with fnc := { s.fnc with fans := t.fnc.fans } } ∧
          (t.fan f).spinUp = none ∧ (t.fan f).current = (s.fan f).target ∧ (t.fan f).target = (s.fan f).target ∧
          (t.fan f).reading = (s.fan f).reading ∧ ∀ g, g ≠ f → t.fan g = s.fan g
      else exec (.spinUpExpiry f) s = .next s) ∧
  (∀ (f : FanId) (n : Nat) (s : State),
      let r := s.fan f
      match r.meas with
      | none =>
        exec (.tachEdge f n) s = .next s ∧ exec (.guardEnd f) s = .next s ∧ exec (.tachCountLimit f) s = .next s
      | some m =>
        exec (.tachEdge f n) s = .next
          (if m.guardLeft ≠ none then s
          else if 0 < m.skip then s.setFan f { r with meas := some { m with skip := m.skip - 1 } }
          else if m.edges = 0 then s.setFan f { r with meas := some { m with edges := 1, count := 0 } }
          else if r.set.edges ≤ m.edges + 1 ∧ m.count + n ≤ 65533 then
            s.setFan f { r with meas := none, done := some (max 1 (m.count + n)) }
          else if m.edges + 1 < r.set.edges ∧ m.count + n < 65533 then
            s.setFan f { r with meas := some { m with edges := m.edges + 1, count := m.count + n } }
          else s.setFan f { r with meas := none, partialEdges := max r.partialEdges m.edges }) ∧
        exec (.guardEnd f) s = .next (s.setFan f { r with meas := some { m with guardLeft := none } }) ∧
        exec (.tachCountLimit f) s = .next
          (if 0 < m.edges then s.setFan f { r with meas := none, partialEdges := max r.partialEdges m.edges } else s)) ∧
  (∀ (f : FanId) (s : State),
      let r := s.fan f
      let counted := match r.meas with
        | some m => max r.partialEdges m.edges
        | none => r.partialEdges
      let reading := match r.done with
        | some n => n
        | none => if 0 < counted ∧ r.set.slowMarking = true then 0xFFFE else 0xFFFF
      let duty := if r.spinUp.isSome then 255 else r.current
      let turning := reading < 0xFFFE ∧ reading ≤ r.set.tachLimit
      ∃ t, exec (.tachUpdate f) s = .next t ∧ t.zc = s.zc ∧ (s.acc.reassign = none → t.settings = s.settings) ∧
        (t.fan f).reading = reading ∧ (t.fan f).tachTimer = r.set.period ∧ (t.fan f).done = none ∧
        (t.fan f).partialEdges = 0 ∧ (∀ g, g ≠ f → t.fan g = s.fan g) ∧
        (if duty = 0 ∨ turning then (t.fan f).stallRun = 0 ∧ (t.fan f).stalled = false
        else if r.spinUp.isSome = true then (t.fan f).stallRun = r.stallRun ∧ (t.fan f).stalled = r.stalled
        else (t.fan f).stallRun = min 3 (r.stallRun + 1) ∧ (t.fan f).stalled = (r.stalled || decide (2 ≤ r.stallRun))) ∧
        ((t.fan f).stalled = true → r.stalled = false → t.flag (match f with | .f0 => .fan0Stall | .f1 => .fan1Stall) = true) ∧
        -- a measurement begins unless the output duty is 0, and below full duty its hold turns the output fully on
        (let v := t.fan f
        let out := if v.spinUp.isSome then 255 else v.current
        v.pwm = (if out = 0 then 0 else if out < 255 then 255 else out) ∧
          v.meas = if out = 0 then none
            else some ⟨decide (out < 255), if out < 255 then some r.set.guard else none, if r.set.ignoreEdges then 3 else 0, 0, 0⟩) ∧
        if r.spinUp.isSome = true ∧ r.set.spinUpReduction = true ∧ turning then
          (t.fan f).spinUp = none ∧ (t.fan f).current = r.target
        else (t.fan f).spinUp = r.spinUp ∧ (t.fan f).current = r.current)

/-! ## Tuner (chapter 8) -/

/-- TUNER_TUNE and TUNER_SEEK refuse what is no band, channel or direction; otherwise the operation starts whatever was in progress, its request IN_FLIGHT and held by the tuner: a tune by a cold dwell on the channel, a seek by a hot dwell on the next raster channel (from above the highest UP goes to channel 0, as from the highest).
That the slot is IN_FLIGHT afterwards needs every held ticket to name an IN_FLIGHT slot, as in every state a run reaches.
TUNER_SCAN refuses a wrong band or range, a tuner not in IDLE, an announcement in progress and, unless forced, a tuner with listeners; otherwise the list's entries of the range are dropped and the scan starts at its first raster channel.
The model's own choice where it rests on log entry 37. -/
def Obligations.TunerOperationsStart : Prop :=
  (∀ (h : ReqHead) (band channel dir : Nat) (s : State),
      (arrives h 0x1D s = true →
        match bandOfCode band with
        | none => exec (.tunerTune h band channel) s = .next (s.answer h 0x1D .badArgument 0 [])
        | some b =>
          if (match b with | .fm => 410 | .am => if s.tun.raster = 9 then 122 else 118) < channel then
            exec (.tunerTune h band channel) s = .next (s.answer h 0x1D .badArgument 0 [])
          else
            ∃ t, exec (.tunerTune h band channel) s = .next t ∧ t.settings = s.settings ∧ t.tun.state = .tuning ∧
              t.tun.band = b ∧ t.tun.channel = channel ∧ t.tun.opOrigin = some h.link.origin ∧
              t.tun.dwell = some ⟨true, match b with | .fm => 40 | .am => 100, false⟩ ∧
              t.tun.ticket = some (ticketAt (s.link h.link) h 0x1D) ∧ t.sdd.sync = .search ∧ t.sdd.data.code = none ∧
              (SlotsHeld s → isInFlight h s t = true) ∧
              (s.tun.state = .idle → t.sdd.ann.state = .inactive ∧
                -- no zone waits for a converter pair to hear the tuner, which needs none
                ((∀ z, s.zc.convWait.contains z = true → (s.zone z).source ≠ .tuner ∧ (s.zone z).saved ≠ some .tuner) →
                  (t.src .tuner).lock = .absent))) ∧
      (arrives h 0x1E s = true →
        if 1 < dir then exec (.tunerSeek h dir) s = .next (s.answer h 0x1E .badArgument 0 [])
        else
          ∃ t, exec (.tunerSeek h dir) s = .next t ∧ t.settings = s.settings ∧ t.tun.state = .seeking ∧ t.tun.band = s.tun.band ∧
            t.tun.start = some s.tun.channel ∧ t.tun.opOrigin = some h.link.origin ∧
            t.tun.ticket = some (ticketAt (s.link h.link) h 0x1E) ∧
            (SlotsHeld s → isInFlight h s t = true) ∧
            (s.tun.band = .fm → s.tun.step ∈ [1, 2, 4] → s.tun.channel ≤ 410 →
              t.tun.dwell = some ⟨false, 8, false⟩ ∧
              t.tun.channel = (if dir = 0 then
                  (if (s.tun.channel / s.tun.step + 1) * s.tun.step ≤ 410 then (s.tun.channel / s.tun.step + 1) * s.tun.step else 0)
                else if s.tun.channel = 0 then 410 / s.tun.step * s.tun.step
                else (s.tun.channel - 1) / s.tun.step * s.tun.step)))) ∧
  (∀ (h : ReqHead) (band first last : Nat) (force : Bool) (s : State), arrives h 0x1F s = true →
      match bandOfCode band with
      | none => exec (.tunerScan h band first last force) s = .next (s.answer h 0x1F .badArgument 0 [])
      | some b =>
        let top := match b with | .fm => 410 | .am => if s.tun.raster = 9 then 122 else 118
        if top < first ∨ top < last ∨ last < first then
          exec (.tunerScan h band first last force) s = .next (s.answer h 0x1F .badArgument 0 [])
        else if s.tun.state ≠ .idle then exec (.tunerScan h band first last force) s = .next (s.answer h 0x1F .busy 0 [])
        else if s.sdd.ann.state ≠ .inactive ∨ ((s.src .tuner).listeners.isEmpty = false ∧ force = false) then
          exec (.tunerScan h band first last force) s = .next (s.answer h 0x1F .tunerInUse 0 [])
        else
          ∃ t, exec (.tunerScan h band first last force) s = .next t ∧ t.settings = s.settings ∧ t.tun.state = .scanning ∧
            t.tun.ret = some (s.tun.band, s.tun.channel) ∧ (t.src .tuner).lock = .absent ∧
            t.tun.ticket = some (ticketAt (s.link h.link) h 0x1F) ∧
            (SlotsHeld s → isInFlight h s t = true) ∧
            t.tun.stations = s.tun.stations.filter (fun x => !(x.band == b && decide (first ≤ x.channel ∧ x.channel ≤ last))) ∧
            (s.tun.step ∈ [1, 2, 4] →
              let step := match b with | .fm => s.tun.step | .am => 1
              let c := (first + step - 1) / step * step
              c ≤ last → t.tun.band = b ∧ t.tun.channel = c))

/-- TUNER_STOP leaves an IDLE or TUNING tuner, stands a seek still where it is, and returns a scan or check to where it began; TUNER_THRESHOLDS sets both margins, or refuses values above 50.
TUNER_REGION refuses other steps and rasters, and is TUNER_IN_USE unless the tuner is IDLE with no listener PLAYING or SWITCHING; otherwise it sets both, empties the station list, restores the baselines, empties the presets off the raster and posts REGION.
The model's own choice where it rests on log entries 21 and 37. -/
def Obligations.TunerStopsAndRegionResets : Prop :=
  (∀ (h : ReqHead) (m a : Nat) (s : State),
      (arrives h 0x20 s = true →
        match s.tun.state with
        | .idle | .tuning => exec (.tunerStop h) s = .next (s.answer h 0x20 .ok 0 [])
        | .seeking =>
          ∃ t, exec (.tunerStop h) s = .next t ∧ hasAnswer h 0x20 .ok [] s t = true ∧ t.settings = s.settings ∧
            t.tun.state = .idle ∧ t.tun.channel = s.tun.channel ∧ t.tun.opOrigin = some h.link.origin ∧ t.tun.dwell = none ∧
            t.tun.ticket = none ∧ (t.src .tuner).lock = .locked
        | .scanning | .afCheck =>
          ∃ t, exec (.tunerStop h) s = .next t ∧ hasAnswer h 0x20 .ok [] s t = true ∧ t.settings = s.settings ∧
            t.tun.state = .tuning ∧ t.tun.opOrigin = some h.link.origin ∧ t.tun.ticket = none ∧ t.tun.scan = none ∧
            ∀ b c, s.tun.ret = some (b, c) → (∀ d, s.tun.dwell = some d → d.back = false) →
              t.tun.band = b ∧ t.tun.channel = c ∧ t.tun.dwell = some ⟨true, match b with | .fm => 40 | .am => 100, false⟩) ∧
      (arrives h 0x27 s = true →
        exec (.tunerThresholds h m a) s = .next
          (if 50 < m ∨ 50 < a then s.answer h 0x27 .badArgument 0 []
          else ({ s with tun := { s.tun with margin := m, afMargin := a } } : State).answer h 0x27 .ok 0 []))) ∧
  (∀ (h : ReqHead) (step raster : Nat) (s : State), arrives h 0x26 s = true →
      let used := ZoneId.all.any (fun z => (s.src .tuner).listeners.has z &&
        ((s.zone z).state == .playing || (s.zone z).state == .switching))
      if step ∉ [1, 2, 4] ∨ raster ∉ [9, 10] then
        exec (.tunerRegion h step raster) s = .next (s.answer h 0x26 .badArgument 0 [])
      else if s.tun.state ≠ .idle ∨ used = true then
        exec (.tunerRegion h step raster) s = .next (s.answer h 0x26 .tunerInUse 0 [])
      else
        let r := { s.tun with
          step := step, raster := raster, stations := [], baseFm := 160, baseAm := 160
          presets := s.tun.presets.map (fun p => match p with
            | some q => if onRaster step raster q then some q else none
            | none => none) }
        match s.tun.band with
        | .fm => exec (.tunerRegion h step raster) s = .next
            ((({ s with tun := r } : State).posted [(.region step raster, .s)]).answer h 0x26 .ok 0 [])
        | .am =>
          match amChan raster (amFreq s.tun.raster s.tun.channel) with
          | some c => exec (.tunerRegion h step raster) s = .next
              ((({ s with tun := { r with channel := c } } : State).posted [(.region step raster, .s)]).answer h 0x26 .ok 0 [])
          | none =>
            ∃ t, exec (.tunerRegion h step raster) s = .next t ∧ hasAnswer h 0x26 .ok [] s t = true ∧ t.tun.state = .tuning ∧
              t.tun.band = .am ∧ t.tun.channel = 0 ∧ t.tun.dwell = some ⟨true, 100, false⟩ ∧ t.tun.step = step ∧
              t.tun.raster = raster ∧ t.tun.stations = [] ∧ t.tun.presets = r.presets)

/-- PRESET_STORE keeps the tuned channel's frequency and committed name; PRESET_RECALL tunes to a preset that lies on the raster; PRESET_UPLOAD replaces exactly the listed entries or none, CHAIN_SHORT with fewer slots than entries.
The model's own choice where it rests on log entries 14, 17 and 42. -/
def Obligations.PresetsAreStoredAndRecalled : Prop :=
  ∀ (h : ReqHead) (list : List UploadEntry) (s : State),
    (arrives h 0x21 s = true →
      exec (.presetStore h) s = .next (match indexOf40 h.target.toNat with
        | none => s.answer h 0x21 .badArgument 0 []
        | some i =>
          if s.tun.state ≠ .idle then s.answer h 0x21 .busy 0 []
          else
            let f := match s.tun.band with
              | .fm => 8750 + 5 * s.tun.channel
              | .am => if s.tun.raster = 9 then 522 + 9 * s.tun.channel else 530 + 10 * s.tun.channel
            let n := match s.tun.band with | .fm => s.sdd.data.name | .am => none
            ({ s with tun := { s.tun with presets := s.tun.presets.set i (some ⟨s.tun.band, f, n⟩) } } : State).answer h 0x21 .ok 0
              (u8 s.tun.band.code ++ u16 f ++ presetName n))) ∧
    (arrives h 0x22 s = true →
      match indexOf40 h.target.toNat with
      | none => exec (.presetRecall h) s = .next (s.answer h 0x22 .badArgument 0 [])
      | some i =>
        match s.tun.presets.get i with
        | none => exec (.presetRecall h) s = .next (s.answer h 0x22 .notAvailable 0 [])
        | some p =>
          match presetChan s.tun.raster p.band p.freq with
          | none => exec (.presetRecall h) s = .next (s.answer h 0x22 .notAvailable 0 [])
          | some c =>
            ∃ t, exec (.presetRecall h) s = .next t ∧ hasAnswer h 0x22 .ok (u8 p.band.code ++ u16 c) s t = true ∧
              t.settings = s.settings ∧ t.tun.state = .tuning ∧ t.tun.band = p.band ∧ t.tun.channel = c ∧
              t.tun.lastPreset = some i ∧ t.tun.ticket = none ∧ t.tun.opOrigin = some h.link.origin) ∧
    (arrives h 0x28 s = true →
      if h.slots < list.length then exec (.presetUpload h list) s = .next (s.answer h 0x28 .chainShort 0 [])
      else match allSome (uploadPreset s.tun.raster) list with
      | none => exec (.presetUpload h list) s = .next (s.answer h 0x28 .badArgument 0 [])
      | some l =>
        if (list.map UploadEntry.index).Nodup then
          ∃ t, exec (.presetUpload h list) s = .next t ∧
            t = ({ s with tun := { s.tun with presets := t.tun.presets } } : State).answer h 0x28 .ok 0 [] ∧
            (∀ e ∈ l, t.tun.presets.get e.1 = e.2) ∧ ∀ i, (∀ e ∈ l, e.1 ≠ i) → t.tun.presets.get i = s.tun.presets.get i
        else exec (.presetUpload h list) s = .next (s.answer h 0x28 .badArgument 0 []))

/-- The end of a dwell measures; a tune ends in IDLE with its slot complete.
A seek or scan judges the measurement against the baseline and the margin: a hot one that qualifies is confirmed cold on the same channel, a cold one that qualifies ends the seek or is offered to the station list and counted, a failing one enters the baseline; the return dwell ends the seek NONE_FOUND with its quality, and the scan OK with its two counts.
An AF check goes on without touching the baseline until its return dwell ends it. With no dwell in progress there is nothing to end.
The model's own choice where it rests on log entries 3 and 17. -/
def Obligations.DwellEndMeasures : Prop :=
  ∀ (q : Nat) (pilot : Bool) (s : State), q ≤ 100 →
    match s.tun.dwell with
    | none => exec (.dwellEnd q pilot) s = .next s
    | some d =>
      let b := s.tun.baseline s.tun.band
      let good := b / 16 + s.tun.margin ≤ q
      let place := u8 s.tun.band.code ++ u16 s.tun.channel ++ u8 q
      ∃ t, exec (.dwellEnd q pilot) s = .next t ∧ t.settings = s.settings ∧ t.tun.quality = q ∧
        (t.tun.dwell = none → t.tun.stereo = (pilot && s.tun.band == .fm)) ∧
        let slot := fun (st : Status) (data : List Byte) =>
          ∀ k, s.tun.ticket = some k → k.slots = 1 → (s.link k.link).gen = k.gen →
            (t.link k.link).slots.get k.slot = ⟨.done, resultRecord k.kind st k.tag k.target 0 data⟩
        let confirm := t.tun.channel = s.tun.channel ∧ t.tun.band = s.tun.band ∧ t.tun.dwell.map Dwell.cold = some true ∧
          t.tun.baseline s.tun.band = b
        match s.tun.state with
        | .idle => t = { s with tun := { s.tun with quality := q, stereo := pilot && s.tun.band == .fm, dwell := none } }
        | .tuning => t.tun.state = .idle ∧ t.tun.channel = s.tun.channel ∧ t.tun.band = s.tun.band ∧
            (t.src .tuner).lock = .locked ∧ t.tun.dwell = none ∧ (s.tun.stopping = false → slot .ok place)
        | .seeking =>
          if d.back then
            t.tun.state = .idle ∧ t.tun.channel = s.tun.channel ∧ t.tun.start = none ∧ slot .noneFound (u8 q)
          else if good then
            if d.cold then
              t.tun.state = .idle ∧ t.tun.channel = s.tun.channel ∧ t.tun.start = none ∧ t.tun.baseline s.tun.band = b ∧
                slot .ok place
            else t.tun.state = .seeking ∧ confirm
          else t.tun.state = .seeking ∧ t.tun.baseline s.tun.band = baselineNext b q
        | .scanning =>
          if d.back then
            t.tun.state = .idle ∧ t.tun.stations = s.tun.stations ∧ t.tun.scan = none ∧ t.tun.ret = none ∧
              ∀ k, s.tun.scan = some k → slot .ok (u16 k.found ++ u16 k.inserted)
          else if good then
            if d.cold then
              let offer := offerStation s.tun.stations ⟨s.tun.band, s.tun.channel, q, none, none⟩
              t.tun.state = .scanning ∧ t.tun.stations = offer.1 ∧ t.tun.baseline s.tun.band = b ∧
                t.tun.scan.map ScanRange.found = s.tun.scan.map (fun k => k.found + 1) ∧
                t.tun.scan.map ScanRange.inserted =
                  s.tun.scan.map (fun k => if offer.2 then k.inserted + 1 else k.inserted)
            else t.tun.state = .scanning ∧ confirm
          else
            t.tun.state = .scanning ∧ t.tun.stations = s.tun.stations ∧ t.tun.baseline s.tun.band = baselineNext b q
        | .afCheck =>
          t.tun.baseFm = s.tun.baseFm ∧ t.tun.baseAm = s.tun.baseAm ∧
            if d.back then t.tun.state = .idle ∧ t.tun.channel = s.tun.channel
            else t.tun.state = .afCheck ∧
              ∀ a, s.tun.af = some a → d.cold = false → a.q0 + 10 ≤ q → confirm

/-- In IDLE the monitor measures the channel; a weak FM station with the AF conditions met starts the weak-signal timer, any other measurement removes it, and the timer's end checks alternate frequencies if the conditions still hold.
The model's own choice where it rests on log entry 3. -/
def Obligations.MonitorWatchesWeakSignal : Prop :=
  ∀ (q : Nat) (pilot : Bool) (s : State), q ≤ 100 →
    let ok := s.tun.state == .idle && s.tun.band == .fm &&
      ZoneId.all.any (fun z => (s.zone z).source == .tuner && (s.zone z).state == .playing) &&
      s.sdd.ann.state == .inactive && s.sdd.data.code.isSome && !s.sdd.data.afList.isEmpty
    exec (.qualityMonitor q pilot) s = .next
      (if s.tun.state = .idle then
        { s with tun := { s.tun with
          quality := q, stereo := pilot && s.tun.band == .fm, monitor := 100
          weak := if ok && decide (q < s.tun.baseFm / 16 + s.tun.afMargin) then
              (match s.tun.weak with | some w => some w | none => some 3000) else none } }
      else s) ∧
    match s.tun.weak with
    | none => exec .weakSignalExpiry s = .next s
    | some _ =>
      if ok = false then exec .weakSignalExpiry s = .next { s with tun := { s.tun with weak := none } }
      else
        ∃ t, exec .weakSignalExpiry s = .next t ∧ t.settings = s.settings ∧ t.tun.state = .afCheck ∧ t.tun.weak = none ∧
          t.tun.ret = some (s.tun.band, s.tun.channel) ∧ t.tun.opOrigin = some .part ∧ (t.src .tuner).lock = .absent ∧
          t.tun.af.map AfRecord.list = some (s.sdd.data.afList.map (fun n => 2 * n)) ∧
          t.tun.af.map AfRecord.q0 = some s.tun.quality

/-! ## Station data and announcements (chapter 9) -/

/-- ANNOUNCE_FILTER sets its three fields together.
A good type 0 group with its announcement flag set, from the known station and accepted by the filter, starts an INACTIVE record: the zones that are ON, follow and do not drain toward STANDBY are taken and go to the tuner, their chosen source saved, and ANNOUNCE_START is posted; it keeps an ACTIVE record and takes an ENDING one back; a flag false ends an ACTIVE one after a hold.
The end of the hold makes the record INACTIVE and gives each taken zone its saved source again.
The model's own choice where it rests on log entries 3, 8, 19 and 39. -/
def Obligations.AnnouncementFilterAndHold : Prop :=
  ∀ (h : ReqHead) (home : Option (BitVec 16)) (mask : BitVec 32) (all : Bool) (w : BitVec 24) (s : State),
    (arrives h 0x29 s = true →
      exec (.announceFilter h home mask all) s =
        .next (({ s with sdd := { s.sdd with filter := ⟨home, mask, all⟩ } } : State).answer h 0x29 .ok 0 [])) ∧
    -- what giving a source to a zone for an announcement comes to, by the zone's state; another zone's course may first let it play
    (let given := fun (z : ZoneId) (x : Src) (t : State) =>
      let r := s.zone z
      let q := t.zone z
      match r.state with
      | .standby => q.state = .standby ∧ q.source = x
      | .playing =>
        if x = r.source then q.state = .playing ∧ q.source = x
        else q.state = .switching ∧ q.pending = some x ∧ q.standbyFlag = false ∧ q.switchOrigin = some .part ∧ q.source = r.source
      | .switching =>
        if r.standbyFlag then q.state = .switching ∧ q.pending = r.pending ∧ q.standbyFlag = true ∧ q.source = r.source
        else if r.pending ≠ some x ∧ x = r.source then
          q.pending = none ∧ q.source = x ∧ (q.state = .playing ∨ q.state = .acquiring)
        else q.state = .switching ∧ q.pending = some x ∧ q.source = r.source
      | .acquiring => q.source = x ∧ (q.state = .playing ∨ q.state = .acquiring) ∨
          q.source = r.source ∧ q.state = .switching ∧ q.pending = some x
    let heard := fun (b : NoticeBody) (t : State) => ∀ l, (s.link l).mask.tuner = true →
      (t.link l).overrun = true ∨ ∃ n ∈ (t.link l).queue, n.body = b ∧ n.origin = .part
    (s.tun.band = .fm → s.tun.state = .idle → s.sdd.sync = .synced → s.sdd.bits = [] → s.sdd.pos = .d →
      w.extractLsb' 0 8 = checkOf .d (w.extractLsb' 8 16) →
      ∀ a b c, s.sdd.group = some [a, b, c] → s.sdd.data.code = some a → b.toNat < 4096 →
        let cls := b.toNat / 128 % 32
        let f := s.sdd.filter
        let accepted := f.acceptAll = true ∨ f.home = some a ∨ f.mask.getLsbD cls = true ∨ cls = 31
        let ann := s.sdd.ann
        ∃ t, exec (.subcarrierWord w) s = .next t ∧ t.settings = s.settings ∧
          if b.getLsbD 5 = true ∧ accepted ∧ ann.state = .inactive then
            let takes := fun (z : ZoneId) => decide ((s.zone z).power = .on ∧ (s.zone z).follow = true ∧
              ¬((s.zone z).state = .switching ∧ (s.zone z).standbyFlag = true))
            let taken : ZoneSet := ⟨takes .main, takes .z2, takes .z3⟩
            t.sdd.ann = ⟨.active, some 0, some cls, some a, none, taken⟩ ∧ heard (.announceStart cls a taken) t ∧
              ∀ z, let chosen := match (s.zone z).pending with | some x => x | none => (s.zone z).source
                if takes z = true ∧ chosen ≠ .tuner then (t.zone z).saved = some chosen ∧ given z .tuner t
                else (t.zone z).saved = (s.zone z).saved ∧ (t.zone z).source = (s.zone z).source ∧
                  (t.zone z).pending = (s.zone z).pending
          else t.zc = s.zc ∧ t.sdd.ann =
            (if b.getLsbD 5 = true then (if accepted ∧ ann.state = .ending then { ann with state := .active, hold := none } else ann)
            else if ann.state = .active then { ann with state := .ending, hold := some 2000 } else ann)) ∧
    if s.sdd.ann.state = .ending then
      ∃ t, exec .announceHoldExpiry s = .next t ∧ t.settings = s.settings ∧ t.sdd.ann = ⟨.inactive, none, none, none, none, .empty⟩ ∧
        t.sdd.data = s.sdd.data ∧ t.tun = s.tun ∧ t.tlm = s.tlm ∧ heard (.announceEnd .holdExpired s.sdd.ann.taken) t ∧
        ∀ z, match (s.zone z).saved with
          | some x => if s.sdd.ann.taken.has z = true then (t.zone z).saved = none ∧ given z x t else (t.zone z).saved = some x
          | none => (t.zone z).saved = none ∧ (t.zone z).source = (s.zone z).source ∧ (t.zone z).pending = (s.zone z).pending
    else exec .announceHoldExpiry s = .next s)

/-- In SYNCED the next 24 bits are one word: its outcome enters the word window; a bad word counts and discards the group, and the sixth bad word of the window loses sync; a good word before D joins its group.
A complete group of types 1 to 15 counts as another group, whatever the tuner does. In the cold dwell of an AF check the check's own station code ends the check in IDLE on the entry's channel with the hot measurement as its quality. With the tuner IDLE the group's station code is taken, another station's code clearing what was kept, and a type 0 group sets class and flags, offers its two AF codes and its two characters, and commits the name when all four segments are confirmed.
In SEARCH the bits are tried one place at a time, and three good words in group order make SYNCED. On AM there is no stream.
The model's own choice where it rests on log entries 19, 38 and 39. -/
def Obligations.SubcarrierWordIsJudged : Prop :=
  ∀ (w v1 v2 v3 : BitVec 24) (p : WordPos) (s : State),
    (s.tun.band = .am → exec (.subcarrierWord w) s = .next s) ∧
    (s.tun.band = .fm → s.sdd.sync = .synced → s.sdd.bits = [] →
      let d := s.sdd
      let data : BitVec 16 := w.extractLsb' 8 16
      let good := decide (w.extractLsb' 0 8 = checkOf d.pos data)
      let window := (if d.window.length < 16 then d.window else d.window.drop 1) ++ [good]
      if good = true then
        (d.pos ≠ .d →
          exec (.subcarrierWord w) s = .next { s with sdd := { d with
            window := window, pos := d.pos.next
            group := match d.pos with | .a => some [data] | _ => d.group.map (· ++ [data]) } })
      else if (window.filter (· == false)).length < 6 then
        exec (.subcarrierWord w) s = .next { s with sdd := { d with
          window := window, pos := d.pos.next, badWords := min 65535 (d.badWords + 1), group := none } }
      else
        ∃ t, exec (.subcarrierWord w) s = .next t ∧ t.sdd.sync = .search ∧ t.sdd.window = [] ∧ t.sdd.group = none ∧
          t.sdd.badWords = min 65535 (d.badWords + 1) ∧ t.sdd.data = { d.data with announcement := false } ∧
          t.sdd.ann.state = (if d.ann.state = .active then .ending else d.ann.state) ∧ t.zc = s.zc) ∧
    (s.tun.band = .fm → s.sdd.sync = .synced → s.sdd.bits = [] → s.sdd.pos = .d →
      w.extractLsb' 0 8 = checkOf .d (w.extractLsb' 8 16) →
      ∀ a b c, s.sdd.group = some [a, b, c] →
        let passed := s.tun.state == .afCheck && s.tun.af.map AfRecord.code == some a &&
          s.tun.dwell.map (fun d => d.cold && !d.back) == some true
        let idle := s.tun.state = .idle ∨ passed = true
        let old := s.sdd.data
        let known := if old.code = some a then old
          else if old.code = none then { old with code := some a }
          else ⟨some a, none, false, false, .replicate 4 ⟨none, none⟩, none, []⟩
        let offer := fun (l : List Nat) (n : Nat) => if 1 ≤ n ∧ n ≤ 205 ∧ n ∉ l ∧ l.length < 25 then l ++ [n] else l
        let seg : Fin 4 := ⟨b.toNat / 8 % 4, Nat.mod_lt _ (by decide)⟩
        let chars : Byte × Byte := (w.extractLsb' 16 8, w.extractLsb' 8 8)
        let r := known.segments.get seg
        let q : Segments := if r.candidate = some chars then { r with confirmed := some chars } else { r with candidate := some chars }
        let segments := known.segments.set seg q
        let name := match (segments.get 0).confirmed, (segments.get 1).confirmed, (segments.get 2).confirmed, (segments.get 3).confirmed with
          | some c0, some c1, some c2, some c3 =>
            if r.confirmed = q.confirmed then known.name else some [c0.1, c0.2, c1.1, c1.2, c2.1, c2.2, c3.1, c3.2]
          | _, _, _, _ => known.name
        ∃ t, exec (.subcarrierWord w) s = .next t ∧ t.settings = s.settings ∧ t.sdd.sync = .synced ∧ t.sdd.pos = .a ∧
          t.sdd.group = none ∧ t.sdd.badWords = s.sdd.badWords ∧
          t.sdd.otherGroups = (if 4096 ≤ b.toNat then min 65535 (s.sdd.otherGroups + 1) else s.sdd.otherGroups) ∧
          (passed = true →
            t.tun.state = .idle ∧ t.tun.band = s.tun.band ∧ t.tun.channel = s.tun.channel ∧ t.tun.quality = s.tun.quality ∧
            t.tun.dwell = none ∧ t.tun.af = none ∧ t.tun.ret = none ∧ (t.src .tuner).lock = .locked ∧
            ∀ l, (s.link l).mask.tuner = true → (t.link l).overrun = true ∨
              ∃ x ∈ (t.link l).queue, x.body = .tuned s.tun.band s.tun.channel s.tun.quality .afCheck .ok true) ∧
          (¬ idle → t.sdd.data = old ∧ t.sdd.ann = s.sdd.ann ∧ t.tun = s.tun) ∧
          (idle → 4096 ≤ b.toNat →
            t.sdd.data = known ∧ (old.code = some a ∨ old.code = none → t.sdd.ann = s.sdd.ann) ∧
              (passed = false → t.zc = s.zc ∧ (old.code = some a → t.tun = s.tun))) ∧
          (idle → b.toNat < 4096 →
            t.sdd.data = { known with
              cls := some (b.toNat / 128 % 32), traffic := b.getLsbD 6, announcement := b.getLsbD 5
              afList := offer (offer known.afList (c.toNat / 256)) (c.toNat % 256), segments := segments, name := name } ∧
            (name ≠ known.name → ∀ l, (s.link l).mask.tuner = true →
              (t.link l).overrun = true ∨
                ∃ x ∈ (t.link l).queue, ∃ n, name = some n ∧ x.body = .stationName (some a) n ∧ x.origin = .part))) ∧
    (s.tun.band = .fm → s.sdd.sync = .search →
      let word := fun (u : BitVec 24) => (List.range 24).map (fun i => u.getLsbD (23 - i))
      let good := fun (u : BitVec 24) (k : WordPos) => decide (u.extractLsb' 0 8 = checkOf k (u.extractLsb' 8 16))
      let data := fun (u : BitVec 24) => (u.extractLsb' 8 16 : BitVec 16)
      let l := s.sdd.bits ++ word w
      let slides := match s.sdd.bits with
        | [] => exec (.subcarrierWord w) s = .next { s with sdd := { s.sdd with bits := l.drop 1 } }
        | _ :: rest => exec (.subcarrierWord w) s = exec (.subcarrierWord w) { s with sdd := { s.sdd with bits := rest } }
      let waits := exec (.subcarrierWord w) s = .next { s with sdd := { s.sdd with bits := l } }
      l.take 24 = word v1 → (48 ≤ l.length → (l.drop 24).take 24 = word v2) → (72 ≤ l.length → (l.drop 48).take 24 = word v3) →
        (([WordPos.a, .b, .c, .d].all (fun k => !good v1 k)) = true → slides) ∧
        (good v1 p = true →
          if l.length < 48 then waits
          else if good v2 p.next = false then slides
          else if l.length < 72 then waits
          else if good v3 p.next.next = false then slides
          else l.length < 96 →
            exec (.subcarrierWord w) s = .next { s with sdd := { s.sdd with
              sync := .synced, window := [true, true, true], pos := p.next.next.next, bits := l.drop 72
              group := match p with
                | .a => some [data v1, data v2, data v3]
                | .b => none
                | .c => some [data v3]
                | .d => some [data v2, data v3] } }))

/-! ## Keypads (chapter 11) -/

/-- KEYPAD_BIND replaces one binding and KEYMAP_LOAD a run of entries, each refusing what its rule names.
A write on the keypad bus is judged by its bytes: a SELECT sets the readback zone, a key message takes a free buffer entry, RX0 where both are empty, or is dropped with KEYPAD_OVERRUN, and anything else but an empty write is counted. A read returns the readback zone's four bytes.
The model's own choice where it rests on log entries 14, 32 and 48. -/
def Obligations.KeypadTablesAndBus : Prop :=
  (∀ (h : ReqHead) (keypad zone start count : Nat) (list : List KeyEntryArg) (s : State),
      (arrives h 0x2E s = true →
        exec (.keypadBind h keypad zone) s = .next (match keypadOf keypad, zoneOfCode zone with
          | some i, some z =>
            ({ s with kpp := { s.kpp with binding := s.kpp.binding.set i z } } : State).answer h 0x2E .ok 0 []
          | _, _ => s.answer h 0x2E .badArgument 0 [])) ∧
      (arrives h 0x2F s = true →
        let entryOk := fun (e : KeyEntryArg) => decide (e.action ≤ 6) && decide (e.arg ≤ 255) &&
          (decide (e.action ≠ 1 ∧ e.action ≠ 2) || decide (1 ≤ e.arg ∧ e.arg ≤ 32))
        if list.length < count ∨ 11 + 14 * (h.slots - 1) < 2 + 2 * count then
          exec (.keymapLoad h start count list) s = .next (s.answer h 0x2F .chainShort 0 [])
        else if count = 0 ∨ 32 < count ∨ 64 < start + count ∨ (list.take count).all entryOk = false then
          exec (.keymapLoad h start count list) s = .next (s.answer h 0x2F .badArgument 0 [])
        else
          ∃ t, exec (.keymapLoad h start count list) s = .next t ∧
            t = ({ s with kpp := { s.kpp with keymap := t.kpp.keymap } } : State).answer h 0x2F .ok 0 [] ∧
            (∀ i : Fin 64, (i.val < start ∨ start + count ≤ i.val) → t.kpp.keymap.get i = s.kpp.keymap.get i) ∧
            ∀ i : Fin 64, start ≤ i.val → i.val < start + count → ∀ e, list[i.val - start]? = some e →
              (t.kpp.keymap.get i).arg = e.arg ∧ actionOfCode e.action = some (t.kpp.keymap.get i).action)) ∧
  (∀ (b0 b1 b2 : Byte) (rest : List Byte) (n : Nat) (s : State),
      let k := s.kpp
      let counted : State := { s with kpp := { k with ignored := min 65535 (k.ignored + 1) } }
      let pad : Fin 8 := ⟨b0.toNat % 8, Nat.mod_lt _ (by decide)⟩
      exec (.select b0) s = .next
        (if b0.toNat / 8 = 16 then { s with kpp := { k with readback := k.binding.get pad } } else counted) ∧
      exec (.keyMessage b0 b1) s = .next
        (if 8 ≤ b0.toNat then counted
        else if k.rx0 = none then { s with kpp := { k with rx0 := some ⟨b0, b1, k.arrivals⟩, arrivals := k.arrivals + 1 } }
        else if k.rx1 = none then { s with kpp := { k with rx1 := some ⟨b0, b1, k.arrivals⟩, arrivals := k.arrivals + 1 } }
        else ({ s with kpp := { k with overflow := true, ignored := min 65535 (k.ignored + 1) } } : State).posted
          [(.keypadOverrun b0.toNat (b1.toNat % 64), .k)]) ∧
      exec (.malformedKeypadWrite []) s = .next s ∧
      exec (.malformedKeypadWrite [b0]) s = exec (.select b0) s ∧
      exec (.malformedKeypadWrite [b0, b1]) s = exec (.keyMessage b0 b1) s ∧
      exec (.malformedKeypadWrite (b0 :: b1 :: b2 :: rest)) s = .next counted ∧
      let z := s.zone k.readback
      let sent : List Byte :=
        [BitVec.ofNat 8 ((if z.power = .on then 1 else 0) + 2 * z.state.code), BitVec.ofNat 8 z.source.id,
          BitVec.ofNat 8 (z.volume + 160).toNat,
          BitVec.ofNat 8 ((if z.mute then 1 else 0) + (if z.sleep.isSome then 2 else 0) +
            (if s.sdd.ann.taken.has k.readback then 4 else 0) + (if FlagId.all.any s.flag then 8 else 0))]
      exec (.readbackRead n) s = .next { s with kpp := { k with readOut := (sent ++ List.replicate n 0).take n } })

/-- The oldest key message is handled by its kind and leaves the buffer, the other entry staying: a press takes the key record and acts on the bound zone under K's permission; a repeat of the current key acts within 30 seconds of its press, for VOL_UP and VOL_DOWN alone, and past them is only counted, with KEY_STUCK once; a repeat of another key is taken as its press; a release clears the record. A message of another kind waits. A SOURCE_NEXT on a zone that drains toward standby is refused, and leaves a zone that an announcement has taken as it is.
The model's own choice where it rests on log entries 22, 40 and 42. -/
def Obligations.KeyMessagesAct : Prop :=
  ∀ (s : State),
    let oldest : Option (RxEntry × Bool) := match s.kpp.rx0, s.kpp.rx1 with
      | none, none => none
      | some a, none => some (a, true)
      | none, some b => some (b, false)
      | some a, some b => if a.arrival ≤ b.arrival then some (a, true) else some (b, false)
    match oldest with
    | none => exec .keyPress s = .next s ∧ exec .keyRepeat s = .next s ∧ exec .keyRelease s = .next s
    | some (e, first) =>
      let pad : Fin 8 := ⟨e.b0.toNat % 8, Nat.mod_lt _ (by decide)⟩
      let code : Fin 64 := ⟨e.b1.toNat % 64, Nat.mod_lt _ (by decide)⟩
      let key := s.kpp.keymap.get code
      let r := s.kpp.keys.get pad
      let z := s.kpp.binding.get pad
      let q := s.zone z
      let left : Keypads := if first then { s.kpp with rx0 := none } else { s.kpp with rx1 := none }
      let counted := min 65535 (s.kpp.ignored + 1)
      let taken : KeyRec := ⟨some code.val, s.now, false⟩
      let allowed := zoneAllowed (s.perm .k) z
      let ring := match q.ring.findIdx? (fun x => x == q.source) with
        | some i => (match q.ring[(i + 1) % q.ring.length]? with | some x => x | none => q.source)
        | none => (match q.ring with | x :: _ => x | [] => q.source)
      let start := match s.tun.lastPreset with | some i => i.val + 1 | none => 0
      let full := fun (d : Nat) => (s.tun.presets.get ⟨(start + d) % 40, Nat.mod_lt _ (by decide)⟩).isSome
      -- what the key's action does to the state, the key record and the buffer apart
      let acts := fun (again : Bool) (t : State) =>
        (key.action = .none → t.zc = s.zc ∧ t.tun = s.tun ∧ t.kpp.ignored = s.kpp.ignored) ∧
        (again = true → key.action ≠ .volUp → key.action ≠ .volDown →
          t.zc = s.zc ∧ t.tun = s.tun ∧ t.kpp.ignored = s.kpp.ignored) ∧
        (again = false ∨ key.action = .volUp ∨ key.action = .volDown → key.action ≠ .none → key.action ≠ .presetNext →
          if allowed = false then t.zc = s.zc ∧ t.tun = s.tun ∧ t.kpp.ignored = counted
          else
            (key.action = .volUp →
              (t.zone z).volume = max (-160) (min q.ceiling (q.volume + key.arg)) ∧ (t.zone z).mute = false ∧
                t.kpp.ignored = s.kpp.ignored ∧ ∀ y, y ≠ z → t.zone y = s.zone y) ∧
            (key.action = .volDown →
              (t.zone z).volume = max (-160) (min q.ceiling (q.volume - key.arg)) ∧ (t.zone z).mute = q.mute ∧
                t.kpp.ignored = s.kpp.ignored ∧ ∀ y, y ≠ z → t.zone y = s.zone y) ∧
            (key.action = .muteToggle →
              (t.zone z).mute = !q.mute ∧ (t.zone z).volume = q.volume ∧ t.kpp.ignored = s.kpp.ignored ∧
                ∀ y, y ≠ z → t.zone y = s.zone y) ∧
            (key.action = .powerToggle →
              (t.zone z).power = (match q.power with | .on => .standby | .standby => .on) ∧ t.kpp.ignored = s.kpp.ignored ∧
                (q.power = .on → q.state = .playing →
                  (t.zone z).state = .switching ∧ (t.zone z).standbyFlag = true ∧ (t.zone z).lastOrigin = .k) ∧
                (q.power = .standby → q.state = .standby →
                  (t.zone z).source = q.source ∧ (t.zone z).judged (firstUnmet t z))) ∧
            (key.action = .sourceNext →
              match q.state with
              | .standby => (t.zone z).source = ring ∧ t.kpp.ignored = s.kpp.ignored
              | .playing => t.kpp.ignored = s.kpp.ignored ∧
                  if ring = q.source then (t.zone z).state = .playing ∧ (t.zone z).source = q.source
                  else (t.zone z).state = .switching ∧ (t.zone z).pending = some ring ∧ (t.zone z).switchOrigin = some .k
              | .acquiring => (t.zone z).source = ring ∧ t.kpp.ignored = s.kpp.ignored
              | .switching =>
                if q.standbyFlag then t.zc = s.zc ∧ t.kpp.ignored = counted
                else t.kpp.ignored = s.kpp.ignored ∧
                  (q.pending ≠ some ring → ring ≠ q.source → (t.zone z).state = .switching ∧ (t.zone z).pending = some ring))) ∧
        (again = false → key.action = .presetNext →
          ((s.perm .k).tuner = false ∨ (List.range 40).all (fun d => !full d) = true →
            t.zc = s.zc ∧ t.tun = s.tun ∧ t.kpp.ignored = counted) ∧
          ((s.perm .k).tuner = true → ∀ d, d < 40 → full d = true → (List.range d).all (fun k => !full k) = true →
            let i : Fin 40 := ⟨(start + d) % 40, Nat.mod_lt _ (by decide)⟩
            match s.tun.presets.get i with
            | none => False
            | some p => match presetChan s.tun.raster p.band p.freq with
              | none => t.zc = s.zc ∧ t.tun = s.tun ∧ t.kpp.ignored = counted
              | some c => t.tun.state = .tuning ∧ t.tun.band = p.band ∧ t.tun.channel = c ∧ t.tun.lastPreset = some i ∧
                  t.tun.opOrigin = some .k ∧ t.kpp.ignored = s.kpp.ignored))
      let press := e.b1.toNat < 64
      let again := 64 ≤ e.b1.toNat ∧ e.b1.toNat < 128
      let release := 128 ≤ e.b1.toNat
      (if release then
        exec .keyRelease s = .next { s with kpp := { left with keys := s.kpp.keys.set pad ⟨none, 0, false⟩ } }
      else exec .keyRelease s = .next s) ∧
      (if press then
        ∃ t, exec .keyPress s = .next t ∧ t.settings.keymap = s.settings.keymap ∧
          t.kpp = { left with keys := s.kpp.keys.set pad taken, ignored := t.kpp.ignored } ∧ acts false t
      else exec .keyPress s = .next s) ∧
      if again then
        if r.current = some code.val then
          if s.now - r.pressed ≤ 30000 then
            ∃ t, exec .keyRepeat s = .next t ∧ t.kpp = { left with ignored := t.kpp.ignored } ∧ acts true t
          else
            let u : State := { s with kpp := { left with
              ignored := counted, keys := if r.stuck then s.kpp.keys else s.kpp.keys.set pad { r with stuck := true } } }
            exec .keyRepeat s = .next (if r.stuck then u else u.posted [(.keyStuck pad code, .k)])
        else
          ∃ t, exec .keyRepeat s = .next t ∧
            t.kpp = { left with keys := s.kpp.keys.set pad taken, ignored := t.kpp.ignored } ∧ acts true t
      else exec .keyRepeat s = .next s

/-! ## Invariants that every step keeps -/

/-- Once the protection lock is set, no command but power-on reset changes the lock, the limits, a clip limit or a fan's settings. -/
def Obligations.LockFreezesProtection : Prop :=
  ∀ (s t : State), s.tlm.lock = true → s.pending.head? ≠ some .powerOnReset → step s = .next t →
    t.tlm.lock = true ∧ t.tlm.limits = s.tlm.limits ∧ (∀ z, (t.guard z).limit = (s.guard z).limit) ∧
      ∀ f, (t.fan f).set = (s.fan f).set

/-- Every step keeps every package derate within -40 to 0 and every clip guard within -12 to 0. -/
def Obligations.ProtectionTermsStayInRange : Prop :=
  ∀ (s t : State), TermsInRange s → step s = .next t → TermsInRange t

/-- Every step keeps every notice queue at sixteen notices or fewer. -/
def Obligations.NoticeQueuesHoldSixteen : Prop :=
  ∀ (s t : State), QueuesBounded s → step s = .next t → QueuesBounded t

/-- Every step keeps every zone's V and minimum level between the floor and its ceiling, and the ceiling in its range. -/
def Obligations.VolumesStayBelowCeilings : Prop :=
  ∀ (s t : State), VolumesInRange s → step s = .next t → VolumesInRange t

/-- Every held ticket goes on naming slots that are IN_FLIGHT and its own, whatever command is taken.
A LINK_RESET does so where no ticket of its link carries the generation it counts to: the generation is eight bits wide and comes round after 256 of them. -/
def Obligations.HeldSlotsStayInFlight : Prop :=
  ∀ (s t : State), SlotsHeld s →
    (∀ c rest, s.pending = c :: rest → ∀ l arg, c = .linkReset l arg →
      ∀ k, k ∈ tickets s → k.link = l → k.gen ≠ (s.link l).gen + 1) →
    step s = .next t → SlotsHeld t

/-- No step leaves a zone in ACQUIRING with reason CONVERTER and a pair: whoever is granted a pair is judged in the same event.
That is the model's own choice: R25 has the zone evaluated when SIU reports its source LOCKED, which section 1.10 shows as a later event.
The model's own choice where it rests on log entries 9 and 26. -/
def Obligations.GrantsAreJudgedAtOnce : Prop :=
  ∀ (s t : State), GrantsJudged s → step s = .next t → GrantsJudged t

/-- Every step keeps what the engines hold of the zones in agreement with the zone records: consumers name their engine, waiting zones name none, and neither stands in STANDBY or, on an analog source, without its converter pair. -/
def Obligations.ConsumersKeepTheirEngines : Prop :=
  ∀ (s t : State), ConsumersAgree s → step s = .next t → ConsumersAgree t

/-- What every step keeps holds after reset. -/
def Obligations.InvariantsHoldAtReset : Prop :=
  TermsInRange State.reset ∧ QueuesBounded State.reset ∧ VolumesInRange State.reset ∧ SlotsHeld State.reset ∧
    GrantsJudged State.reset ∧ ConsumersAgree State.reset
end

