-- ==== Sys2Proof/Laws/Tab.lean ====
section
/-! SUPPORT. What a table of fixed length reads after it is written, and the indices of the record tables. -/
namespace Sys2Proof

/-! ## Reading and writing a table -/

theorem Tab.get_eq {n : Nat} {α : Type} (t : Tab n α) (i : Fin n) :
    t.get i = t.entries[i.val]'(by rw [t.size]; exact i.isLt) := rfl

@[simp] theorem Tab.get_set_self {n : Nat} {α : Type} (t : Tab n α) (i : Fin n) (a : α) : (t.set i a).get i = a := by
  simp [Tab.get, Tab.set]

@[simp] theorem Tab.get_set_ne {n : Nat} {α : Type} (t : Tab n α) (i j : Fin n) (a : α) (h : j ≠ i) :
    (t.set i a).get j = t.get j := by
  have : i.val ≠ j.val := fun e => h (Fin.ext e.symm)
  simp [Tab.get, Tab.set, this]

theorem Tab.get_set {n : Nat} {α : Type} (t : Tab n α) (i j : Fin n) (a : α) :
    (t.set i a).get j = if j = i then a else t.get j := by
  split
  · next h => rw [h]; simp
  · next h => simp [h]

@[simp] theorem Tab.get_replicate {n : Nat} {α : Type} (a : α) (i : Fin n) : (Tab.replicate n a).get i = a := by
  simp [Tab.get, Tab.replicate]

@[simp] theorem Tab.get_map {n : Nat} {α β : Type} (f : α → β) (t : Tab n α) (i : Fin n) : (t.map f).get i = f (t.get i) := by
  simp [Tab.get, Tab.map]

/-- Tables that read alike are the same table. -/
theorem Tab.ext_get {n : Nat} {α : Type} {t u : Tab n α} (h : ∀ i, t.get i = u.get i) : t = u := by
  cases t with
  | mk l hl =>
    cases u with
    | mk m hm =>
      congr
      apply List.ext_getElem
      · rw [hl, hm]
      · intro i hi _
        exact h ⟨i, hl ▸ hi⟩

@[simp] theorem Tab.set_get {n : Nat} {α : Type} (t : Tab n α) (i : Fin n) : t.set i (t.get i) = t := by
  apply Tab.ext_get
  intro j
  rw [Tab.get_set]
  split <;> simp_all

@[simp] theorem Tab.set_set {n : Nat} {α : Type} (t : Tab n α) (i : Fin n) (a b : α) : (t.set i a).set i b = t.set i b := by
  apply Tab.ext_get
  intro j
  simp only [Tab.get_set]
  split <;> rfl

theorem Tab.set_comm {n : Nat} {α : Type} (t : Tab n α) (i j : Fin n) (a b : α) (h : i ≠ j) :
    (t.set i a).set j b = (t.set j b).set i a := by
  apply Tab.ext_get
  intro k
  simp only [Tab.get_set]
  split <;> split <;> simp_all

/-- A function that does not tell the written entry from the old one does not see the write. -/
theorem Tab.map_entries_set {n : Nat} {α β : Type} (f : α → β) (t : Tab n α) (i : Fin n) (a : α) (h : f a = f (t.get i)) :
    (t.set i a).entries.map f = t.entries.map f := by
  have : ((t.set i a).map f) = t.map f := by
    apply Tab.ext_get
    intro j
    simp only [Tab.get_map, Tab.get_set]
    split <;> simp_all
  exact congrArg Tab.entries this

/-! ## Indices -/

theorem ZoneId.idx_inj {x y : ZoneId} (h : x.idx = y.idx) : x = y := by cases x <;> cases y <;> first | rfl | cases h

@[simp] theorem ZoneId.idx_eq {x y : ZoneId} : x.idx = y.idx ↔ x = y := ⟨ZoneId.idx_inj, fun h => h ▸ rfl⟩

theorem Link.idx_inj {x y : Link} (h : x.idx = y.idx) : x = y := by cases x <;> cases y <;> first | rfl | cases h

@[simp] theorem Link.idx_eq {x y : Link} : x.idx = y.idx ↔ x = y := ⟨Link.idx_inj, fun h => h ▸ rfl⟩

theorem Port.idx_inj {x y : Port} (h : x.idx = y.idx) : x = y := by cases x <;> cases y <;> first | rfl | cases h

@[simp] theorem Port.idx_eq {x y : Port} : x.idx = y.idx ↔ x = y := ⟨Port.idx_inj, fun h => h ▸ rfl⟩

theorem Src.idx_inj {x y : Src} (h : x.idx = y.idx) : x = y := by cases x <;> cases y <;> first | rfl | cases h

@[simp] theorem Src.idx_eq {x y : Src} : x.idx = y.idx ↔ x = y := ⟨Src.idx_inj, fun h => h ▸ rfl⟩

theorem EngineId.idx_inj {x y : EngineId} (h : x.idx = y.idx) : x = y := by cases x <;> cases y <;> first | rfl | cases h

@[simp] theorem EngineId.idx_eq {x y : EngineId} : x.idx = y.idx ↔ x = y := ⟨EngineId.idx_inj, fun h => h ▸ rfl⟩

theorem PkgId.idx_inj {x y : PkgId} (h : x.idx = y.idx) : x = y := by cases x <;> cases y <;> first | rfl | cases h

@[simp] theorem PkgId.idx_eq {x y : PkgId} : x.idx = y.idx ↔ x = y := ⟨PkgId.idx_inj, fun h => h ▸ rfl⟩

theorem ChanId.idx_inj {x y : ChanId} (h : x.idx = y.idx) : x = y := by cases x <;> cases y <;> first | rfl | cases h

@[simp] theorem ChanId.idx_eq {x y : ChanId} : x.idx = y.idx ↔ x = y := ⟨ChanId.idx_inj, fun h => h ▸ rfl⟩

theorem LineId.idx_inj {x y : LineId} (h : x.idx = y.idx) : x = y := by cases x <;> cases y <;> first | rfl | cases h

@[simp] theorem LineId.idx_eq {x y : LineId} : x.idx = y.idx ↔ x = y := ⟨LineId.idx_inj, fun h => h ▸ rfl⟩

theorem FanId.idx_inj {x y : FanId} (h : x.idx = y.idx) : x = y := by cases x <;> cases y <;> first | rfl | cases h

@[simp] theorem FanId.idx_eq {x y : FanId} : x.idx = y.idx ↔ x = y := ⟨FanId.idx_inj, fun h => h ▸ rfl⟩

theorem Sensor.idx_inj {x y : Sensor} (h : x.idx = y.idx) : x = y := by cases x <;> cases y <;> first | rfl | cases h

@[simp] theorem Sensor.idx_eq {x y : Sensor} : x.idx = y.idx ↔ x = y := ⟨Sensor.idx_inj, fun h => h ▸ rfl⟩

@[simp] theorem ZoneId.mem_all (x : ZoneId) : x ∈ ZoneId.all := by cases x <;> decide

@[simp] theorem Src.mem_all (x : Src) : x ∈ Src.all := by cases x <;> decide

@[simp] theorem Clocked.mem_all (x : Clocked) : x ∈ Clocked.all := by cases x <;> decide

@[simp] theorem EngineId.mem_all (x : EngineId) : x ∈ EngineId.all := by cases x <;> decide

@[simp] theorem PkgId.mem_all (x : PkgId) : x ∈ PkgId.all := by cases x <;> decide

@[simp] theorem ChanId.mem_all (x : ChanId) : x ∈ ChanId.all := by cases x <;> decide

@[simp] theorem LineId.mem_all (x : LineId) : x ∈ LineId.all := by cases x <;> decide

@[simp] theorem FanId.mem_all (x : FanId) : x ∈ FanId.all := by cases x <;> decide

@[simp] theorem Sensor.mem_all (x : Sensor) : x ∈ Sensor.all := by cases x <;> decide

@[simp] theorem Clocked.src_eq {x y : Clocked} : x.src = y.src ↔ x = y := by cases x <;> cases y <;> decide

@[simp] theorem OutId.mem_all (o : OutId) : o ∈ OutId.all := by
  cases o with
  | ac c => cases c <;> decide
  | line l => cases l <;> decide

theorem OutId.idx_inj {x y : OutId} (h : x.idx = y.idx) : x = y := by
  have hv := congrArg Fin.val h
  cases x with
  | ac c => cases y with
    | ac d => exact congrArg OutId.ac (ChanId.idx_inj (Fin.ext hv))
    | line l => exact absurd hv (by have := c.idx.isLt; simp only [OutId.idx]; omega)
  | line l => cases y with
    | ac d => exact absurd hv (by have := d.idx.isLt; simp only [OutId.idx]; omega)
    | line m => exact congrArg OutId.line (LineId.idx_inj (Fin.ext (Nat.add_right_cancel hv)))

@[simp] theorem OutId.idx_eq {x y : OutId} : x.idx = y.idx ↔ x = y := ⟨OutId.idx_inj, fun h => h ▸ rfl⟩

/-- The outputs stand in the order of their indices. -/
theorem OutId.get_all (o : OutId) : OutId.all[o.idx.val]? = some o := by
  cases o with
  | ac c => cases c <;> rfl
  | line l => cases l <;> rfl

end Sys2Proof
end

