-- ==== Sys2Proof/Laws/State.lean ====
section
/-! SUPPORT. What each field and each record reads after one record of the state is replaced: one lemma per field per update, each true by unfolding alone, and one per record. -/
namespace Sys2Proof.Machine

/-! ## setZone -/

@[simp] theorem State.setZone_siu (s : State) (z : ZoneId) (r : ZoneRec) : (s.setZone z r).siu = s.siu := rfl
@[simp] theorem State.setZone_de (s : State) (z : ZoneId) (r : ZoneRec) : (s.setZone z r).de = s.de := rfl
@[simp] theorem State.setZone_cmap (s : State) (z : ZoneId) (r : ZoneRec) : (s.setZone z r).cmap = s.cmap := rfl
@[simp] theorem State.setZone_lvu (s : State) (z : ZoneId) (r : ZoneRec) : (s.setZone z r).lvu = s.lvu := rfl
@[simp] theorem State.setZone_acc (s : State) (z : ZoneId) (r : ZoneRec) : (s.setZone z r).acc = s.acc := rfl
@[simp] theorem State.setZone_tlm (s : State) (z : ZoneId) (r : ZoneRec) : (s.setZone z r).tlm = s.tlm := rfl
@[simp] theorem State.setZone_fnc (s : State) (z : ZoneId) (r : ZoneRec) : (s.setZone z r).fnc = s.fnc := rfl
@[simp] theorem State.setZone_tun (s : State) (z : ZoneId) (r : ZoneRec) : (s.setZone z r).tun = s.tun := rfl
@[simp] theorem State.setZone_sdd (s : State) (z : ZoneId) (r : ZoneRec) : (s.setZone z r).sdd = s.sdd := rfl
@[simp] theorem State.setZone_lnk (s : State) (z : ZoneId) (r : ZoneRec) : (s.setZone z r).lnk = s.lnk := rfl
@[simp] theorem State.setZone_kpp (s : State) (z : ZoneId) (r : ZoneRec) : (s.setZone z r).kpp = s.kpp := rfl
@[simp] theorem State.setZone_now (s : State) (z : ZoneId) (r : ZoneRec) : (s.setZone z r).now = s.now := rfl
@[simp] theorem State.setZone_choices (s : State) (z : ZoneId) (r : ZoneRec) : (s.setZone z r).choices = s.choices := rfl
@[simp] theorem State.setZone_pending (s : State) (z : ZoneId) (r : ZoneRec) : (s.setZone z r).pending = s.pending := rfl
@[simp] theorem State.setZone_zc_mode (s : State) (z : ZoneId) (r : ZoneRec) : (s.setZone z r).zc.mode = s.zc.mode := rfl
@[simp] theorem State.setZone_zc_lift (s : State) (z : ZoneId) (r : ZoneRec) : (s.setZone z r).zc.lift = s.zc.lift := rfl
@[simp] theorem State.setZone_zc_convWait (s : State) (z : ZoneId) (r : ZoneRec) : (s.setZone z r).zc.convWait = s.zc.convWait := rfl
@[simp] theorem State.setZone_zc_floorReport (s : State) (z : ZoneId) (r : ZoneRec) : (s.setZone z r).zc.floorReport = s.zc.floorReport := rfl
@[simp] theorem State.setZone_zc_zones (s : State) (z : ZoneId) (r : ZoneRec) : (s.setZone z r).zc.zones = s.zc.zones.set z.idx r := rfl
@[simp] theorem State.setZone_src (s : State) (z : ZoneId) (r : ZoneRec) (x : Src) : (s.setZone z r).src x = s.src x := rfl
@[simp] theorem State.setZone_eng (s : State) (z : ZoneId) (r : ZoneRec) (e : EngineId) : (s.setZone z r).eng e = s.eng e := rfl
@[simp] theorem State.setZone_lev (s : State) (z : ZoneId) (r : ZoneRec) (o : OutId) : (s.setZone z r).lev o = s.lev o := rfl
@[simp] theorem State.setZone_chan (s : State) (z : ZoneId) (r : ZoneRec) (c : ChanId) : (s.setZone z r).chan c = s.chan c := rfl
@[simp] theorem State.setZone_pkg (s : State) (z : ZoneId) (r : ZoneRec) (p : PkgId) : (s.setZone z r).pkg p = s.pkg p := rfl
@[simp] theorem State.setZone_meas (s : State) (z : ZoneId) (r : ZoneRec) (i : Sensor) : (s.setZone z r).meas i = s.meas i := rfl
@[simp] theorem State.setZone_heat (s : State) (z : ZoneId) (r : ZoneRec) (p : PkgId) : (s.setZone z r).heat p = s.heat p := rfl
@[simp] theorem State.setZone_guard (s : State) (z : ZoneId) (r : ZoneRec) (z' : ZoneId) : (s.setZone z r).guard z' = s.guard z' := rfl
@[simp] theorem State.setZone_fan (s : State) (z : ZoneId) (r : ZoneRec) (f : FanId) : (s.setZone z r).fan f = s.fan f := rfl
@[simp] theorem State.setZone_link (s : State) (z : ZoneId) (r : ZoneRec) (l : Link) : (s.setZone z r).link l = s.link l := rfl
@[simp] theorem State.setZone_perm (s : State) (z : ZoneId) (r : ZoneRec) (q : Port) : (s.setZone z r).perm q = s.perm q := rfl

@[simp] theorem State.setZone_zone_self (s : State) (z : ZoneId) (r : ZoneRec) : (s.setZone z r).zone z = r := Tab.get_set_self ..

theorem State.setZone_zone (s : State) (z k : ZoneId) (r : ZoneRec) : (s.setZone z r).zone k = if k = z then r else s.zone k := by
  show (s.zc.zones.set z.idx r).get k.idx = _
  rw [Tab.get_set]
  simp only [ZoneId.idx_eq]
  rfl

@[simp] theorem State.setZone_zone_ne (s : State) (z k : ZoneId) (r : ZoneRec) (h : k ≠ z) : (s.setZone z r).zone k = s.zone k := by
  rw [State.setZone_zone, if_neg h]

@[simp] theorem State.setZone_zone_same (s : State) (z : ZoneId) : s.setZone z (s.zone z) = s := by
  simp [State.setZone, State.zone]

@[simp] theorem State.setZone_setZone (s : State) (z : ZoneId) (r q : ZoneRec) : (s.setZone z r).setZone z q = s.setZone z q := by
  simp [State.setZone]

theorem State.setZone_comm (s : State) (z w : ZoneId) (r q : ZoneRec) (h : z ≠ w) :
    (s.setZone z r).setZone w q = (s.setZone w q).setZone z r := by
  unfold State.setZone
  dsimp only
  rw [Tab.set_comm]
  exact fun e => h (ZoneId.idx_inj e)

@[simp] theorem State.updZone_eq (s : State) (z : ZoneId) (f : ZoneRec → ZoneRec) : s.updZone z f = s.setZone z (f (s.zone z)) := rfl

/-! ## setSrc -/

@[simp] theorem State.setSrc_zc (s : State) (x : Src) (r : SourceRec) : (s.setSrc x r).zc = s.zc := rfl
@[simp] theorem State.setSrc_de (s : State) (x : Src) (r : SourceRec) : (s.setSrc x r).de = s.de := rfl
@[simp] theorem State.setSrc_cmap (s : State) (x : Src) (r : SourceRec) : (s.setSrc x r).cmap = s.cmap := rfl
@[simp] theorem State.setSrc_lvu (s : State) (x : Src) (r : SourceRec) : (s.setSrc x r).lvu = s.lvu := rfl
@[simp] theorem State.setSrc_acc (s : State) (x : Src) (r : SourceRec) : (s.setSrc x r).acc = s.acc := rfl
@[simp] theorem State.setSrc_tlm (s : State) (x : Src) (r : SourceRec) : (s.setSrc x r).tlm = s.tlm := rfl
@[simp] theorem State.setSrc_fnc (s : State) (x : Src) (r : SourceRec) : (s.setSrc x r).fnc = s.fnc := rfl
@[simp] theorem State.setSrc_tun (s : State) (x : Src) (r : SourceRec) : (s.setSrc x r).tun = s.tun := rfl
@[simp] theorem State.setSrc_sdd (s : State) (x : Src) (r : SourceRec) : (s.setSrc x r).sdd = s.sdd := rfl
@[simp] theorem State.setSrc_lnk (s : State) (x : Src) (r : SourceRec) : (s.setSrc x r).lnk = s.lnk := rfl
@[simp] theorem State.setSrc_kpp (s : State) (x : Src) (r : SourceRec) : (s.setSrc x r).kpp = s.kpp := rfl
@[simp] theorem State.setSrc_now (s : State) (x : Src) (r : SourceRec) : (s.setSrc x r).now = s.now := rfl
@[simp] theorem State.setSrc_choices (s : State) (x : Src) (r : SourceRec) : (s.setSrc x r).choices = s.choices := rfl
@[simp] theorem State.setSrc_pending (s : State) (x : Src) (r : SourceRec) : (s.setSrc x r).pending = s.pending := rfl
@[simp] theorem State.setSrc_siu_lanes (s : State) (x : Src) (r : SourceRec) : (s.setSrc x r).siu.lanes = s.siu.lanes := rfl
@[simp] theorem State.setSrc_siu_sources (s : State) (x : Src) (r : SourceRec) : (s.setSrc x r).siu.sources = s.siu.sources.set x.idx r := rfl
@[simp] theorem State.setSrc_zone (s : State) (x : Src) (r : SourceRec) (z : ZoneId) : (s.setSrc x r).zone z = s.zone z := rfl
@[simp] theorem State.setSrc_eng (s : State) (x : Src) (r : SourceRec) (e : EngineId) : (s.setSrc x r).eng e = s.eng e := rfl
@[simp] theorem State.setSrc_lev (s : State) (x : Src) (r : SourceRec) (o : OutId) : (s.setSrc x r).lev o = s.lev o := rfl
@[simp] theorem State.setSrc_chan (s : State) (x : Src) (r : SourceRec) (c : ChanId) : (s.setSrc x r).chan c = s.chan c := rfl
@[simp] theorem State.setSrc_pkg (s : State) (x : Src) (r : SourceRec) (p : PkgId) : (s.setSrc x r).pkg p = s.pkg p := rfl
@[simp] theorem State.setSrc_meas (s : State) (x : Src) (r : SourceRec) (i : Sensor) : (s.setSrc x r).meas i = s.meas i := rfl
@[simp] theorem State.setSrc_heat (s : State) (x : Src) (r : SourceRec) (p : PkgId) : (s.setSrc x r).heat p = s.heat p := rfl
@[simp] theorem State.setSrc_guard (s : State) (x : Src) (r : SourceRec) (z : ZoneId) : (s.setSrc x r).guard z = s.guard z := rfl
@[simp] theorem State.setSrc_fan (s : State) (x : Src) (r : SourceRec) (f : FanId) : (s.setSrc x r).fan f = s.fan f := rfl
@[simp] theorem State.setSrc_link (s : State) (x : Src) (r : SourceRec) (l : Link) : (s.setSrc x r).link l = s.link l := rfl
@[simp] theorem State.setSrc_perm (s : State) (x : Src) (r : SourceRec) (q : Port) : (s.setSrc x r).perm q = s.perm q := rfl

@[simp] theorem State.setSrc_src_self (s : State) (x : Src) (r : SourceRec) : (s.setSrc x r).src x = r := Tab.get_set_self ..

theorem State.setSrc_src (s : State) (x k : Src) (r : SourceRec) : (s.setSrc x r).src k = if k = x then r else s.src k := by
  show (s.siu.sources.set x.idx r).get k.idx = _
  rw [Tab.get_set]
  simp only [Src.idx_eq]
  rfl

@[simp] theorem State.setSrc_src_ne (s : State) (x k : Src) (r : SourceRec) (h : k ≠ x) : (s.setSrc x r).src k = s.src k := by
  rw [State.setSrc_src, if_neg h]

@[simp] theorem State.setSrc_src_same (s : State) (x : Src) : s.setSrc x (s.src x) = s := by
  simp [State.setSrc, State.src]

@[simp] theorem State.setSrc_setSrc (s : State) (x : Src) (r q : SourceRec) : (s.setSrc x r).setSrc x q = s.setSrc x q := by
  simp [State.setSrc]

theorem State.setSrc_comm (s : State) (x w : Src) (r q : SourceRec) (h : x ≠ w) :
    (s.setSrc x r).setSrc w q = (s.setSrc w q).setSrc x r := by
  unfold State.setSrc
  dsimp only
  rw [Tab.set_comm]
  exact fun e => h (Src.idx_inj e)

@[simp] theorem State.updSrc_eq (s : State) (x : Src) (f : SourceRec → SourceRec) : s.updSrc x f = s.setSrc x (f (s.src x)) := rfl

/-! ## setEng -/

@[simp] theorem State.setEng_zc (s : State) (e : EngineId) (r : EngineRec) : (s.setEng e r).zc = s.zc := rfl
@[simp] theorem State.setEng_siu (s : State) (e : EngineId) (r : EngineRec) : (s.setEng e r).siu = s.siu := rfl
@[simp] theorem State.setEng_cmap (s : State) (e : EngineId) (r : EngineRec) : (s.setEng e r).cmap = s.cmap := rfl
@[simp] theorem State.setEng_lvu (s : State) (e : EngineId) (r : EngineRec) : (s.setEng e r).lvu = s.lvu := rfl
@[simp] theorem State.setEng_acc (s : State) (e : EngineId) (r : EngineRec) : (s.setEng e r).acc = s.acc := rfl
@[simp] theorem State.setEng_tlm (s : State) (e : EngineId) (r : EngineRec) : (s.setEng e r).tlm = s.tlm := rfl
@[simp] theorem State.setEng_fnc (s : State) (e : EngineId) (r : EngineRec) : (s.setEng e r).fnc = s.fnc := rfl
@[simp] theorem State.setEng_tun (s : State) (e : EngineId) (r : EngineRec) : (s.setEng e r).tun = s.tun := rfl
@[simp] theorem State.setEng_sdd (s : State) (e : EngineId) (r : EngineRec) : (s.setEng e r).sdd = s.sdd := rfl
@[simp] theorem State.setEng_lnk (s : State) (e : EngineId) (r : EngineRec) : (s.setEng e r).lnk = s.lnk := rfl
@[simp] theorem State.setEng_kpp (s : State) (e : EngineId) (r : EngineRec) : (s.setEng e r).kpp = s.kpp := rfl
@[simp] theorem State.setEng_now (s : State) (e : EngineId) (r : EngineRec) : (s.setEng e r).now = s.now := rfl
@[simp] theorem State.setEng_choices (s : State) (e : EngineId) (r : EngineRec) : (s.setEng e r).choices = s.choices := rfl
@[simp] theorem State.setEng_pending (s : State) (e : EngineId) (r : EngineRec) : (s.setEng e r).pending = s.pending := rfl
@[simp] theorem State.setEng_de_wait (s : State) (e : EngineId) (r : EngineRec) : (s.setEng e r).de.wait = s.de.wait := rfl
@[simp] theorem State.setEng_de_engines (s : State) (e : EngineId) (r : EngineRec) : (s.setEng e r).de.engines = s.de.engines.set e.idx r := rfl
@[simp] theorem State.setEng_zone (s : State) (e : EngineId) (r : EngineRec) (z : ZoneId) : (s.setEng e r).zone z = s.zone z := rfl
@[simp] theorem State.setEng_src (s : State) (e : EngineId) (r : EngineRec) (x : Src) : (s.setEng e r).src x = s.src x := rfl
@[simp] theorem State.setEng_lev (s : State) (e : EngineId) (r : EngineRec) (o : OutId) : (s.setEng e r).lev o = s.lev o := rfl
@[simp] theorem State.setEng_chan (s : State) (e : EngineId) (r : EngineRec) (c : ChanId) : (s.setEng e r).chan c = s.chan c := rfl
@[simp] theorem State.setEng_pkg (s : State) (e : EngineId) (r : EngineRec) (p : PkgId) : (s.setEng e r).pkg p = s.pkg p := rfl
@[simp] theorem State.setEng_meas (s : State) (e : EngineId) (r : EngineRec) (i : Sensor) : (s.setEng e r).meas i = s.meas i := rfl
@[simp] theorem State.setEng_heat (s : State) (e : EngineId) (r : EngineRec) (p : PkgId) : (s.setEng e r).heat p = s.heat p := rfl
@[simp] theorem State.setEng_guard (s : State) (e : EngineId) (r : EngineRec) (z : ZoneId) : (s.setEng e r).guard z = s.guard z := rfl
@[simp] theorem State.setEng_fan (s : State) (e : EngineId) (r : EngineRec) (f : FanId) : (s.setEng e r).fan f = s.fan f := rfl
@[simp] theorem State.setEng_link (s : State) (e : EngineId) (r : EngineRec) (l : Link) : (s.setEng e r).link l = s.link l := rfl
@[simp] theorem State.setEng_perm (s : State) (e : EngineId) (r : EngineRec) (q : Port) : (s.setEng e r).perm q = s.perm q := rfl

@[simp] theorem State.setEng_eng_self (s : State) (e : EngineId) (r : EngineRec) : (s.setEng e r).eng e = r := Tab.get_set_self ..

theorem State.setEng_eng (s : State) (e k : EngineId) (r : EngineRec) : (s.setEng e r).eng k = if k = e then r else s.eng k := by
  show (s.de.engines.set e.idx r).get k.idx = _
  rw [Tab.get_set]
  simp only [EngineId.idx_eq]
  rfl

@[simp] theorem State.setEng_eng_ne (s : State) (e k : EngineId) (r : EngineRec) (h : k ≠ e) : (s.setEng e r).eng k = s.eng k := by
  rw [State.setEng_eng, if_neg h]

@[simp] theorem State.setEng_eng_same (s : State) (e : EngineId) : s.setEng e (s.eng e) = s := by
  simp [State.setEng, State.eng]

@[simp] theorem State.setEng_setEng (s : State) (e : EngineId) (r q : EngineRec) : (s.setEng e r).setEng e q = s.setEng e q := by
  simp [State.setEng]

theorem State.setEng_comm (s : State) (e w : EngineId) (r q : EngineRec) (h : e ≠ w) :
    (s.setEng e r).setEng w q = (s.setEng w q).setEng e r := by
  unfold State.setEng
  dsimp only
  rw [Tab.set_comm]
  exact fun e => h (EngineId.idx_inj e)

@[simp] theorem State.updEng_eq (s : State) (e : EngineId) (f : EngineRec → EngineRec) : s.updEng e f = s.setEng e (f (s.eng e)) := rfl

/-! ## setLev -/

@[simp] theorem State.setLev_zc (s : State) (o : OutId) (r : LevelRec) : (s.setLev o r).zc = s.zc := rfl
@[simp] theorem State.setLev_siu (s : State) (o : OutId) (r : LevelRec) : (s.setLev o r).siu = s.siu := rfl
@[simp] theorem State.setLev_de (s : State) (o : OutId) (r : LevelRec) : (s.setLev o r).de = s.de := rfl
@[simp] theorem State.setLev_cmap (s : State) (o : OutId) (r : LevelRec) : (s.setLev o r).cmap = s.cmap := rfl
@[simp] theorem State.setLev_acc (s : State) (o : OutId) (r : LevelRec) : (s.setLev o r).acc = s.acc := rfl
@[simp] theorem State.setLev_tlm (s : State) (o : OutId) (r : LevelRec) : (s.setLev o r).tlm = s.tlm := rfl
@[simp] theorem State.setLev_fnc (s : State) (o : OutId) (r : LevelRec) : (s.setLev o r).fnc = s.fnc := rfl
@[simp] theorem State.setLev_tun (s : State) (o : OutId) (r : LevelRec) : (s.setLev o r).tun = s.tun := rfl
@[simp] theorem State.setLev_sdd (s : State) (o : OutId) (r : LevelRec) : (s.setLev o r).sdd = s.sdd := rfl
@[simp] theorem State.setLev_lnk (s : State) (o : OutId) (r : LevelRec) : (s.setLev o r).lnk = s.lnk := rfl
@[simp] theorem State.setLev_kpp (s : State) (o : OutId) (r : LevelRec) : (s.setLev o r).kpp = s.kpp := rfl
@[simp] theorem State.setLev_now (s : State) (o : OutId) (r : LevelRec) : (s.setLev o r).now = s.now := rfl
@[simp] theorem State.setLev_choices (s : State) (o : OutId) (r : LevelRec) : (s.setLev o r).choices = s.choices := rfl
@[simp] theorem State.setLev_pending (s : State) (o : OutId) (r : LevelRec) : (s.setLev o r).pending = s.pending := rfl
@[simp] theorem State.setLev_lvu_lineTrims (s : State) (o : OutId) (r : LevelRec) : (s.setLev o r).lvu.lineTrims = s.lvu.lineTrims := rfl
@[simp] theorem State.setLev_lvu_rampTimer (s : State) (o : OutId) (r : LevelRec) : (s.setLev o r).lvu.rampTimer = s.lvu.rampTimer := rfl
@[simp] theorem State.setLev_lvu_samples (s : State) (o : OutId) (r : LevelRec) : (s.setLev o r).lvu.samples = s.lvu.samples := rfl
@[simp] theorem State.setLev_lvu_levels (s : State) (o : OutId) (r : LevelRec) : (s.setLev o r).lvu.levels = s.lvu.levels.set o.idx r := rfl
@[simp] theorem State.setLev_zone (s : State) (o : OutId) (r : LevelRec) (z : ZoneId) : (s.setLev o r).zone z = s.zone z := rfl
@[simp] theorem State.setLev_src (s : State) (o : OutId) (r : LevelRec) (x : Src) : (s.setLev o r).src x = s.src x := rfl
@[simp] theorem State.setLev_eng (s : State) (o : OutId) (r : LevelRec) (e : EngineId) : (s.setLev o r).eng e = s.eng e := rfl
@[simp] theorem State.setLev_chan (s : State) (o : OutId) (r : LevelRec) (c : ChanId) : (s.setLev o r).chan c = s.chan c := rfl
@[simp] theorem State.setLev_pkg (s : State) (o : OutId) (r : LevelRec) (p : PkgId) : (s.setLev o r).pkg p = s.pkg p := rfl
@[simp] theorem State.setLev_meas (s : State) (o : OutId) (r : LevelRec) (i : Sensor) : (s.setLev o r).meas i = s.meas i := rfl
@[simp] theorem State.setLev_heat (s : State) (o : OutId) (r : LevelRec) (p : PkgId) : (s.setLev o r).heat p = s.heat p := rfl
@[simp] theorem State.setLev_guard (s : State) (o : OutId) (r : LevelRec) (z : ZoneId) : (s.setLev o r).guard z = s.guard z := rfl
@[simp] theorem State.setLev_fan (s : State) (o : OutId) (r : LevelRec) (f : FanId) : (s.setLev o r).fan f = s.fan f := rfl
@[simp] theorem State.setLev_link (s : State) (o : OutId) (r : LevelRec) (l : Link) : (s.setLev o r).link l = s.link l := rfl
@[simp] theorem State.setLev_perm (s : State) (o : OutId) (r : LevelRec) (q : Port) : (s.setLev o r).perm q = s.perm q := rfl

@[simp] theorem State.setLev_lev_self (s : State) (o : OutId) (r : LevelRec) : (s.setLev o r).lev o = r := Tab.get_set_self ..

theorem State.setLev_lev (s : State) (o k : OutId) (r : LevelRec) : (s.setLev o r).lev k = if k = o then r else s.lev k := by
  show (s.lvu.levels.set o.idx r).get k.idx = _
  rw [Tab.get_set]
  simp only [OutId.idx_eq]
  rfl

@[simp] theorem State.setLev_lev_ne (s : State) (o k : OutId) (r : LevelRec) (h : k ≠ o) : (s.setLev o r).lev k = s.lev k := by
  rw [State.setLev_lev, if_neg h]

@[simp] theorem State.setLev_lev_same (s : State) (o : OutId) : s.setLev o (s.lev o) = s := by
  simp [State.setLev, State.lev]

@[simp] theorem State.setLev_setLev (s : State) (o : OutId) (r q : LevelRec) : (s.setLev o r).setLev o q = s.setLev o q := by
  simp [State.setLev]

theorem State.setLev_comm (s : State) (o w : OutId) (r q : LevelRec) (h : o ≠ w) :
    (s.setLev o r).setLev w q = (s.setLev w q).setLev o r := by
  unfold State.setLev
  dsimp only
  rw [Tab.set_comm]
  exact fun e => h (OutId.idx_inj e)

/-! ## setChan -/

@[simp] theorem State.setChan_zc (s : State) (c : ChanId) (r : ChanRec) : (s.setChan c r).zc = s.zc := rfl
@[simp] theorem State.setChan_siu (s : State) (c : ChanId) (r : ChanRec) : (s.setChan c r).siu = s.siu := rfl
@[simp] theorem State.setChan_de (s : State) (c : ChanId) (r : ChanRec) : (s.setChan c r).de = s.de := rfl
@[simp] theorem State.setChan_cmap (s : State) (c : ChanId) (r : ChanRec) : (s.setChan c r).cmap = s.cmap := rfl
@[simp] theorem State.setChan_lvu (s : State) (c : ChanId) (r : ChanRec) : (s.setChan c r).lvu = s.lvu := rfl
@[simp] theorem State.setChan_tlm (s : State) (c : ChanId) (r : ChanRec) : (s.setChan c r).tlm = s.tlm := rfl
@[simp] theorem State.setChan_fnc (s : State) (c : ChanId) (r : ChanRec) : (s.setChan c r).fnc = s.fnc := rfl
@[simp] theorem State.setChan_tun (s : State) (c : ChanId) (r : ChanRec) : (s.setChan c r).tun = s.tun := rfl
@[simp] theorem State.setChan_sdd (s : State) (c : ChanId) (r : ChanRec) : (s.setChan c r).sdd = s.sdd := rfl
@[simp] theorem State.setChan_lnk (s : State) (c : ChanId) (r : ChanRec) : (s.setChan c r).lnk = s.lnk := rfl
@[simp] theorem State.setChan_kpp (s : State) (c : ChanId) (r : ChanRec) : (s.setChan c r).kpp = s.kpp := rfl
@[simp] theorem State.setChan_now (s : State) (c : ChanId) (r : ChanRec) : (s.setChan c r).now = s.now := rfl
@[simp] theorem State.setChan_choices (s : State) (c : ChanId) (r : ChanRec) : (s.setChan c r).choices = s.choices := rfl
@[simp] theorem State.setChan_pending (s : State) (c : ChanId) (r : ChanRec) : (s.setChan c r).pending = s.pending := rfl
@[simp] theorem State.setChan_acc_packages (s : State) (c : ChanId) (r : ChanRec) : (s.setChan c r).acc.packages = s.acc.packages := rfl
@[simp] theorem State.setChan_acc_ready (s : State) (c : ChanId) (r : ChanRec) : (s.setChan c r).acc.ready = s.acc.ready := rfl
@[simp] theorem State.setChan_acc_reassign (s : State) (c : ChanId) (r : ChanRec) : (s.setChan c r).acc.reassign = s.acc.reassign := rfl
@[simp] theorem State.setChan_acc_check (s : State) (c : ChanId) (r : ChanRec) : (s.setChan c r).acc.check = s.acc.check := rfl
@[simp] theorem State.setChan_acc_floorReport (s : State) (c : ChanId) (r : ChanRec) : (s.setChan c r).acc.floorReport = s.acc.floorReport := rfl
@[simp] theorem State.setChan_acc_channels (s : State) (c : ChanId) (r : ChanRec) : (s.setChan c r).acc.channels = s.acc.channels.set c.idx r := rfl
@[simp] theorem State.setChan_zone (s : State) (c : ChanId) (r : ChanRec) (z : ZoneId) : (s.setChan c r).zone z = s.zone z := rfl
@[simp] theorem State.setChan_src (s : State) (c : ChanId) (r : ChanRec) (x : Src) : (s.setChan c r).src x = s.src x := rfl
@[simp] theorem State.setChan_eng (s : State) (c : ChanId) (r : ChanRec) (e : EngineId) : (s.setChan c r).eng e = s.eng e := rfl
@[simp] theorem State.setChan_lev (s : State) (c : ChanId) (r : ChanRec) (o : OutId) : (s.setChan c r).lev o = s.lev o := rfl
@[simp] theorem State.setChan_pkg (s : State) (c : ChanId) (r : ChanRec) (p : PkgId) : (s.setChan c r).pkg p = s.pkg p := rfl
@[simp] theorem State.setChan_meas (s : State) (c : ChanId) (r : ChanRec) (i : Sensor) : (s.setChan c r).meas i = s.meas i := rfl
@[simp] theorem State.setChan_heat (s : State) (c : ChanId) (r : ChanRec) (p : PkgId) : (s.setChan c r).heat p = s.heat p := rfl
@[simp] theorem State.setChan_guard (s : State) (c : ChanId) (r : ChanRec) (z : ZoneId) : (s.setChan c r).guard z = s.guard z := rfl
@[simp] theorem State.setChan_fan (s : State) (c : ChanId) (r : ChanRec) (f : FanId) : (s.setChan c r).fan f = s.fan f := rfl
@[simp] theorem State.setChan_link (s : State) (c : ChanId) (r : ChanRec) (l : Link) : (s.setChan c r).link l = s.link l := rfl
@[simp] theorem State.setChan_perm (s : State) (c : ChanId) (r : ChanRec) (q : Port) : (s.setChan c r).perm q = s.perm q := rfl

@[simp] theorem State.setChan_chan_self (s : State) (c : ChanId) (r : ChanRec) : (s.setChan c r).chan c = r := Tab.get_set_self ..

theorem State.setChan_chan (s : State) (c k : ChanId) (r : ChanRec) : (s.setChan c r).chan k = if k = c then r else s.chan k := by
  show (s.acc.channels.set c.idx r).get k.idx = _
  rw [Tab.get_set]
  simp only [ChanId.idx_eq]
  rfl

@[simp] theorem State.setChan_chan_ne (s : State) (c k : ChanId) (r : ChanRec) (h : k ≠ c) : (s.setChan c r).chan k = s.chan k := by
  rw [State.setChan_chan, if_neg h]

@[simp] theorem State.setChan_chan_same (s : State) (c : ChanId) : s.setChan c (s.chan c) = s := by
  simp [State.setChan, State.chan]

@[simp] theorem State.setChan_setChan (s : State) (c : ChanId) (r q : ChanRec) : (s.setChan c r).setChan c q = s.setChan c q := by
  simp [State.setChan]

theorem State.setChan_comm (s : State) (c w : ChanId) (r q : ChanRec) (h : c ≠ w) :
    (s.setChan c r).setChan w q = (s.setChan w q).setChan c r := by
  unfold State.setChan
  dsimp only
  rw [Tab.set_comm]
  exact fun e => h (ChanId.idx_inj e)

@[simp] theorem State.updChan_eq (s : State) (c : ChanId) (f : ChanRec → ChanRec) : s.updChan c f = s.setChan c (f (s.chan c)) := rfl

/-! ## setPkg -/

@[simp] theorem State.setPkg_zc (s : State) (p : PkgId) (r : PkgRec) : (s.setPkg p r).zc = s.zc := rfl
@[simp] theorem State.setPkg_siu (s : State) (p : PkgId) (r : PkgRec) : (s.setPkg p r).siu = s.siu := rfl
@[simp] theorem State.setPkg_de (s : State) (p : PkgId) (r : PkgRec) : (s.setPkg p r).de = s.de := rfl
@[simp] theorem State.setPkg_cmap (s : State) (p : PkgId) (r : PkgRec) : (s.setPkg p r).cmap = s.cmap := rfl
@[simp] theorem State.setPkg_lvu (s : State) (p : PkgId) (r : PkgRec) : (s.setPkg p r).lvu = s.lvu := rfl
@[simp] theorem State.setPkg_tlm (s : State) (p : PkgId) (r : PkgRec) : (s.setPkg p r).tlm = s.tlm := rfl
@[simp] theorem State.setPkg_fnc (s : State) (p : PkgId) (r : PkgRec) : (s.setPkg p r).fnc = s.fnc := rfl
@[simp] theorem State.setPkg_tun (s : State) (p : PkgId) (r : PkgRec) : (s.setPkg p r).tun = s.tun := rfl
@[simp] theorem State.setPkg_sdd (s : State) (p : PkgId) (r : PkgRec) : (s.setPkg p r).sdd = s.sdd := rfl
@[simp] theorem State.setPkg_lnk (s : State) (p : PkgId) (r : PkgRec) : (s.setPkg p r).lnk = s.lnk := rfl
@[simp] theorem State.setPkg_kpp (s : State) (p : PkgId) (r : PkgRec) : (s.setPkg p r).kpp = s.kpp := rfl
@[simp] theorem State.setPkg_now (s : State) (p : PkgId) (r : PkgRec) : (s.setPkg p r).now = s.now := rfl
@[simp] theorem State.setPkg_choices (s : State) (p : PkgId) (r : PkgRec) : (s.setPkg p r).choices = s.choices := rfl
@[simp] theorem State.setPkg_pending (s : State) (p : PkgId) (r : PkgRec) : (s.setPkg p r).pending = s.pending := rfl
@[simp] theorem State.setPkg_acc_channels (s : State) (p : PkgId) (r : PkgRec) : (s.setPkg p r).acc.channels = s.acc.channels := rfl
@[simp] theorem State.setPkg_acc_ready (s : State) (p : PkgId) (r : PkgRec) : (s.setPkg p r).acc.ready = s.acc.ready := rfl
@[simp] theorem State.setPkg_acc_reassign (s : State) (p : PkgId) (r : PkgRec) : (s.setPkg p r).acc.reassign = s.acc.reassign := rfl
@[simp] theorem State.setPkg_acc_check (s : State) (p : PkgId) (r : PkgRec) : (s.setPkg p r).acc.check = s.acc.check := rfl
@[simp] theorem State.setPkg_acc_floorReport (s : State) (p : PkgId) (r : PkgRec) : (s.setPkg p r).acc.floorReport = s.acc.floorReport := rfl
@[simp] theorem State.setPkg_acc_packages (s : State) (p : PkgId) (r : PkgRec) : (s.setPkg p r).acc.packages = s.acc.packages.set p.idx r := rfl
@[simp] theorem State.setPkg_zone (s : State) (p : PkgId) (r : PkgRec) (z : ZoneId) : (s.setPkg p r).zone z = s.zone z := rfl
@[simp] theorem State.setPkg_src (s : State) (p : PkgId) (r : PkgRec) (x : Src) : (s.setPkg p r).src x = s.src x := rfl
@[simp] theorem State.setPkg_eng (s : State) (p : PkgId) (r : PkgRec) (e : EngineId) : (s.setPkg p r).eng e = s.eng e := rfl
@[simp] theorem State.setPkg_lev (s : State) (p : PkgId) (r : PkgRec) (o : OutId) : (s.setPkg p r).lev o = s.lev o := rfl
@[simp] theorem State.setPkg_chan (s : State) (p : PkgId) (r : PkgRec) (c : ChanId) : (s.setPkg p r).chan c = s.chan c := rfl
@[simp] theorem State.setPkg_meas (s : State) (p : PkgId) (r : PkgRec) (i : Sensor) : (s.setPkg p r).meas i = s.meas i := rfl
@[simp] theorem State.setPkg_heat (s : State) (p : PkgId) (r : PkgRec) (p' : PkgId) : (s.setPkg p r).heat p' = s.heat p' := rfl
@[simp] theorem State.setPkg_guard (s : State) (p : PkgId) (r : PkgRec) (z : ZoneId) : (s.setPkg p r).guard z = s.guard z := rfl
@[simp] theorem State.setPkg_fan (s : State) (p : PkgId) (r : PkgRec) (f : FanId) : (s.setPkg p r).fan f = s.fan f := rfl
@[simp] theorem State.setPkg_link (s : State) (p : PkgId) (r : PkgRec) (l : Link) : (s.setPkg p r).link l = s.link l := rfl
@[simp] theorem State.setPkg_perm (s : State) (p : PkgId) (r : PkgRec) (q : Port) : (s.setPkg p r).perm q = s.perm q := rfl

@[simp] theorem State.setPkg_pkg_self (s : State) (p : PkgId) (r : PkgRec) : (s.setPkg p r).pkg p = r := Tab.get_set_self ..

theorem State.setPkg_pkg (s : State) (p k : PkgId) (r : PkgRec) : (s.setPkg p r).pkg k = if k = p then r else s.pkg k := by
  show (s.acc.packages.set p.idx r).get k.idx = _
  rw [Tab.get_set]
  simp only [PkgId.idx_eq]
  rfl

@[simp] theorem State.setPkg_pkg_ne (s : State) (p k : PkgId) (r : PkgRec) (h : k ≠ p) : (s.setPkg p r).pkg k = s.pkg k := by
  rw [State.setPkg_pkg, if_neg h]

@[simp] theorem State.setPkg_pkg_same (s : State) (p : PkgId) : s.setPkg p (s.pkg p) = s := by
  simp [State.setPkg, State.pkg]

@[simp] theorem State.setPkg_setPkg (s : State) (p : PkgId) (r q : PkgRec) : (s.setPkg p r).setPkg p q = s.setPkg p q := by
  simp [State.setPkg]

theorem State.setPkg_comm (s : State) (p w : PkgId) (r q : PkgRec) (h : p ≠ w) :
    (s.setPkg p r).setPkg w q = (s.setPkg w q).setPkg p r := by
  unfold State.setPkg
  dsimp only
  rw [Tab.set_comm]
  exact fun e => h (PkgId.idx_inj e)

@[simp] theorem State.updPkg_eq (s : State) (p : PkgId) (f : PkgRec → PkgRec) : s.updPkg p f = s.setPkg p (f (s.pkg p)) := rfl

/-! ## setMeas -/

@[simp] theorem State.setMeas_zc (s : State) (i : Sensor) (r : Meas) : (s.setMeas i r).zc = s.zc := rfl
@[simp] theorem State.setMeas_siu (s : State) (i : Sensor) (r : Meas) : (s.setMeas i r).siu = s.siu := rfl
@[simp] theorem State.setMeas_de (s : State) (i : Sensor) (r : Meas) : (s.setMeas i r).de = s.de := rfl
@[simp] theorem State.setMeas_cmap (s : State) (i : Sensor) (r : Meas) : (s.setMeas i r).cmap = s.cmap := rfl
@[simp] theorem State.setMeas_lvu (s : State) (i : Sensor) (r : Meas) : (s.setMeas i r).lvu = s.lvu := rfl
@[simp] theorem State.setMeas_acc (s : State) (i : Sensor) (r : Meas) : (s.setMeas i r).acc = s.acc := rfl
@[simp] theorem State.setMeas_fnc (s : State) (i : Sensor) (r : Meas) : (s.setMeas i r).fnc = s.fnc := rfl
@[simp] theorem State.setMeas_tun (s : State) (i : Sensor) (r : Meas) : (s.setMeas i r).tun = s.tun := rfl
@[simp] theorem State.setMeas_sdd (s : State) (i : Sensor) (r : Meas) : (s.setMeas i r).sdd = s.sdd := rfl
@[simp] theorem State.setMeas_lnk (s : State) (i : Sensor) (r : Meas) : (s.setMeas i r).lnk = s.lnk := rfl
@[simp] theorem State.setMeas_kpp (s : State) (i : Sensor) (r : Meas) : (s.setMeas i r).kpp = s.kpp := rfl
@[simp] theorem State.setMeas_now (s : State) (i : Sensor) (r : Meas) : (s.setMeas i r).now = s.now := rfl
@[simp] theorem State.setMeas_choices (s : State) (i : Sensor) (r : Meas) : (s.setMeas i r).choices = s.choices := rfl
@[simp] theorem State.setMeas_pending (s : State) (i : Sensor) (r : Meas) : (s.setMeas i r).pending = s.pending := rfl
@[simp] theorem State.setMeas_tlm_limits (s : State) (i : Sensor) (r : Meas) : (s.setMeas i r).tlm.limits = s.tlm.limits := rfl
@[simp] theorem State.setMeas_tlm_lock (s : State) (i : Sensor) (r : Meas) : (s.setMeas i r).tlm.lock = s.tlm.lock := rfl
@[simp] theorem State.setMeas_tlm_thermal (s : State) (i : Sensor) (r : Meas) : (s.setMeas i r).tlm.thermal = s.tlm.thermal := rfl
@[simp] theorem State.setMeas_tlm_hsWarm (s : State) (i : Sensor) (r : Meas) : (s.setMeas i r).tlm.hsWarm = s.tlm.hsWarm := rfl
@[simp] theorem State.setMeas_tlm_hsTrip (s : State) (i : Sensor) (r : Meas) : (s.setMeas i r).tlm.hsTrip = s.tlm.hsTrip := rfl
@[simp] theorem State.setMeas_tlm_railLow (s : State) (i : Sensor) (r : Meas) : (s.setMeas i r).tlm.railLow = s.tlm.railLow := rfl
@[simp] theorem State.setMeas_tlm_railHigh (s : State) (i : Sensor) (r : Meas) : (s.setMeas i r).tlm.railHigh = s.tlm.railHigh := rfl
@[simp] theorem State.setMeas_tlm_guards (s : State) (i : Sensor) (r : Meas) : (s.setMeas i r).tlm.guards = s.tlm.guards := rfl
@[simp] theorem State.setMeas_tlm_flags (s : State) (i : Sensor) (r : Meas) : (s.setMeas i r).tlm.flags = s.tlm.flags := rfl
@[simp] theorem State.setMeas_tlm_samplingTimer (s : State) (i : Sensor) (r : Meas) : (s.setMeas i r).tlm.samplingTimer = s.tlm.samplingTimer := rfl
@[simp] theorem State.setMeas_tlm_meas (s : State) (i : Sensor) (r : Meas) : (s.setMeas i r).tlm.meas = s.tlm.meas.set i.idx r := rfl
@[simp] theorem State.setMeas_zone (s : State) (i : Sensor) (r : Meas) (z : ZoneId) : (s.setMeas i r).zone z = s.zone z := rfl
@[simp] theorem State.setMeas_src (s : State) (i : Sensor) (r : Meas) (x : Src) : (s.setMeas i r).src x = s.src x := rfl
@[simp] theorem State.setMeas_eng (s : State) (i : Sensor) (r : Meas) (e : EngineId) : (s.setMeas i r).eng e = s.eng e := rfl
@[simp] theorem State.setMeas_lev (s : State) (i : Sensor) (r : Meas) (o : OutId) : (s.setMeas i r).lev o = s.lev o := rfl
@[simp] theorem State.setMeas_chan (s : State) (i : Sensor) (r : Meas) (c : ChanId) : (s.setMeas i r).chan c = s.chan c := rfl
@[simp] theorem State.setMeas_pkg (s : State) (i : Sensor) (r : Meas) (p : PkgId) : (s.setMeas i r).pkg p = s.pkg p := rfl
@[simp] theorem State.setMeas_heat (s : State) (i : Sensor) (r : Meas) (p : PkgId) : (s.setMeas i r).heat p = s.heat p := rfl
@[simp] theorem State.setMeas_guard (s : State) (i : Sensor) (r : Meas) (z : ZoneId) : (s.setMeas i r).guard z = s.guard z := rfl
@[simp] theorem State.setMeas_fan (s : State) (i : Sensor) (r : Meas) (f : FanId) : (s.setMeas i r).fan f = s.fan f := rfl
@[simp] theorem State.setMeas_link (s : State) (i : Sensor) (r : Meas) (l : Link) : (s.setMeas i r).link l = s.link l := rfl
@[simp] theorem State.setMeas_perm (s : State) (i : Sensor) (r : Meas) (q : Port) : (s.setMeas i r).perm q = s.perm q := rfl

@[simp] theorem State.setMeas_meas_self (s : State) (i : Sensor) (r : Meas) : (s.setMeas i r).meas i = r := Tab.get_set_self ..

theorem State.setMeas_meas (s : State) (i k : Sensor) (r : Meas) : (s.setMeas i r).meas k = if k = i then r else s.meas k := by
  show (s.tlm.meas.set i.idx r).get k.idx = _
  rw [Tab.get_set]
  simp only [Sensor.idx_eq]
  rfl

@[simp] theorem State.setMeas_meas_ne (s : State) (i k : Sensor) (r : Meas) (h : k ≠ i) : (s.setMeas i r).meas k = s.meas k := by
  rw [State.setMeas_meas, if_neg h]

@[simp] theorem State.setMeas_meas_same (s : State) (i : Sensor) : s.setMeas i (s.meas i) = s := by
  simp [State.setMeas, State.meas]

@[simp] theorem State.setMeas_setMeas (s : State) (i : Sensor) (r q : Meas) : (s.setMeas i r).setMeas i q = s.setMeas i q := by
  simp [State.setMeas]

theorem State.setMeas_comm (s : State) (i w : Sensor) (r q : Meas) (h : i ≠ w) :
    (s.setMeas i r).setMeas w q = (s.setMeas w q).setMeas i r := by
  unfold State.setMeas
  dsimp only
  rw [Tab.set_comm]
  exact fun e => h (Sensor.idx_inj e)

/-! ## setHeat -/

@[simp] theorem State.setHeat_zc (s : State) (p : PkgId) (r : Thermal) : (s.setHeat p r).zc = s.zc := rfl
@[simp] theorem State.setHeat_siu (s : State) (p : PkgId) (r : Thermal) : (s.setHeat p r).siu = s.siu := rfl
@[simp] theorem State.setHeat_de (s : State) (p : PkgId) (r : Thermal) : (s.setHeat p r).de = s.de := rfl
@[simp] theorem State.setHeat_cmap (s : State) (p : PkgId) (r : Thermal) : (s.setHeat p r).cmap = s.cmap := rfl
@[simp] theorem State.setHeat_lvu (s : State) (p : PkgId) (r : Thermal) : (s.setHeat p r).lvu = s.lvu := rfl
@[simp] theorem State.setHeat_acc (s : State) (p : PkgId) (r : Thermal) : (s.setHeat p r).acc = s.acc := rfl
@[simp] theorem State.setHeat_fnc (s : State) (p : PkgId) (r : Thermal) : (s.setHeat p r).fnc = s.fnc := rfl
@[simp] theorem State.setHeat_tun (s : State) (p : PkgId) (r : Thermal) : (s.setHeat p r).tun = s.tun := rfl
@[simp] theorem State.setHeat_sdd (s : State) (p : PkgId) (r : Thermal) : (s.setHeat p r).sdd = s.sdd := rfl
@[simp] theorem State.setHeat_lnk (s : State) (p : PkgId) (r : Thermal) : (s.setHeat p r).lnk = s.lnk := rfl
@[simp] theorem State.setHeat_kpp (s : State) (p : PkgId) (r : Thermal) : (s.setHeat p r).kpp = s.kpp := rfl
@[simp] theorem State.setHeat_now (s : State) (p : PkgId) (r : Thermal) : (s.setHeat p r).now = s.now := rfl
@[simp] theorem State.setHeat_choices (s : State) (p : PkgId) (r : Thermal) : (s.setHeat p r).choices = s.choices := rfl
@[simp] theorem State.setHeat_pending (s : State) (p : PkgId) (r : Thermal) : (s.setHeat p r).pending = s.pending := rfl
@[simp] theorem State.setHeat_tlm_meas (s : State) (p : PkgId) (r : Thermal) : (s.setHeat p r).tlm.meas = s.tlm.meas := rfl
@[simp] theorem State.setHeat_tlm_limits (s : State) (p : PkgId) (r : Thermal) : (s.setHeat p r).tlm.limits = s.tlm.limits := rfl
@[simp] theorem State.setHeat_tlm_lock (s : State) (p : PkgId) (r : Thermal) : (s.setHeat p r).tlm.lock = s.tlm.lock := rfl
@[simp] theorem State.setHeat_tlm_hsWarm (s : State) (p : PkgId) (r : Thermal) : (s.setHeat p r).tlm.hsWarm = s.tlm.hsWarm := rfl
@[simp] theorem State.setHeat_tlm_hsTrip (s : State) (p : PkgId) (r : Thermal) : (s.setHeat p r).tlm.hsTrip = s.tlm.hsTrip := rfl
@[simp] theorem State.setHeat_tlm_railLow (s : State) (p : PkgId) (r : Thermal) : (s.setHeat p r).tlm.railLow = s.tlm.railLow := rfl
@[simp] theorem State.setHeat_tlm_railHigh (s : State) (p : PkgId) (r : Thermal) : (s.setHeat p r).tlm.railHigh = s.tlm.railHigh := rfl
@[simp] theorem State.setHeat_tlm_guards (s : State) (p : PkgId) (r : Thermal) : (s.setHeat p r).tlm.guards = s.tlm.guards := rfl
@[simp] theorem State.setHeat_tlm_flags (s : State) (p : PkgId) (r : Thermal) : (s.setHeat p r).tlm.flags = s.tlm.flags := rfl
@[simp] theorem State.setHeat_tlm_samplingTimer (s : State) (p : PkgId) (r : Thermal) : (s.setHeat p r).tlm.samplingTimer = s.tlm.samplingTimer := rfl
@[simp] theorem State.setHeat_tlm_thermal (s : State) (p : PkgId) (r : Thermal) : (s.setHeat p r).tlm.thermal = s.tlm.thermal.set p.idx r := rfl
@[simp] theorem State.setHeat_zone (s : State) (p : PkgId) (r : Thermal) (z : ZoneId) : (s.setHeat p r).zone z = s.zone z := rfl
@[simp] theorem State.setHeat_src (s : State) (p : PkgId) (r : Thermal) (x : Src) : (s.setHeat p r).src x = s.src x := rfl
@[simp] theorem State.setHeat_eng (s : State) (p : PkgId) (r : Thermal) (e : EngineId) : (s.setHeat p r).eng e = s.eng e := rfl
@[simp] theorem State.setHeat_lev (s : State) (p : PkgId) (r : Thermal) (o : OutId) : (s.setHeat p r).lev o = s.lev o := rfl
@[simp] theorem State.setHeat_chan (s : State) (p : PkgId) (r : Thermal) (c : ChanId) : (s.setHeat p r).chan c = s.chan c := rfl
@[simp] theorem State.setHeat_pkg (s : State) (p : PkgId) (r : Thermal) (p' : PkgId) : (s.setHeat p r).pkg p' = s.pkg p' := rfl
@[simp] theorem State.setHeat_meas (s : State) (p : PkgId) (r : Thermal) (i : Sensor) : (s.setHeat p r).meas i = s.meas i := rfl
@[simp] theorem State.setHeat_guard (s : State) (p : PkgId) (r : Thermal) (z : ZoneId) : (s.setHeat p r).guard z = s.guard z := rfl
@[simp] theorem State.setHeat_fan (s : State) (p : PkgId) (r : Thermal) (f : FanId) : (s.setHeat p r).fan f = s.fan f := rfl
@[simp] theorem State.setHeat_link (s : State) (p : PkgId) (r : Thermal) (l : Link) : (s.setHeat p r).link l = s.link l := rfl
@[simp] theorem State.setHeat_perm (s : State) (p : PkgId) (r : Thermal) (q : Port) : (s.setHeat p r).perm q = s.perm q := rfl

@[simp] theorem State.setHeat_heat_self (s : State) (p : PkgId) (r : Thermal) : (s.setHeat p r).heat p = r := Tab.get_set_self ..

theorem State.setHeat_heat (s : State) (p k : PkgId) (r : Thermal) : (s.setHeat p r).heat k = if k = p then r else s.heat k := by
  show (s.tlm.thermal.set p.idx r).get k.idx = _
  rw [Tab.get_set]
  simp only [PkgId.idx_eq]
  rfl

@[simp] theorem State.setHeat_heat_ne (s : State) (p k : PkgId) (r : Thermal) (h : k ≠ p) : (s.setHeat p r).heat k = s.heat k := by
  rw [State.setHeat_heat, if_neg h]

@[simp] theorem State.setHeat_heat_same (s : State) (p : PkgId) : s.setHeat p (s.heat p) = s := by
  simp [State.setHeat, State.heat]

@[simp] theorem State.setHeat_setHeat (s : State) (p : PkgId) (r q : Thermal) : (s.setHeat p r).setHeat p q = s.setHeat p q := by
  simp [State.setHeat]

theorem State.setHeat_comm (s : State) (p w : PkgId) (r q : Thermal) (h : p ≠ w) :
    (s.setHeat p r).setHeat w q = (s.setHeat w q).setHeat p r := by
  unfold State.setHeat
  dsimp only
  rw [Tab.set_comm]
  exact fun e => h (PkgId.idx_inj e)

/-! ## setGuard -/

@[simp] theorem State.setGuard_zc (s : State) (z : ZoneId) (r : ClipGuard) : (s.setGuard z r).zc = s.zc := rfl
@[simp] theorem State.setGuard_siu (s : State) (z : ZoneId) (r : ClipGuard) : (s.setGuard z r).siu = s.siu := rfl
@[simp] theorem State.setGuard_de (s : State) (z : ZoneId) (r : ClipGuard) : (s.setGuard z r).de = s.de := rfl
@[simp] theorem State.setGuard_cmap (s : State) (z : ZoneId) (r : ClipGuard) : (s.setGuard z r).cmap = s.cmap := rfl
@[simp] theorem State.setGuard_lvu (s : State) (z : ZoneId) (r : ClipGuard) : (s.setGuard z r).lvu = s.lvu := rfl
@[simp] theorem State.setGuard_acc (s : State) (z : ZoneId) (r : ClipGuard) : (s.setGuard z r).acc = s.acc := rfl
@[simp] theorem State.setGuard_fnc (s : State) (z : ZoneId) (r : ClipGuard) : (s.setGuard z r).fnc = s.fnc := rfl
@[simp] theorem State.setGuard_tun (s : State) (z : ZoneId) (r : ClipGuard) : (s.setGuard z r).tun = s.tun := rfl
@[simp] theorem State.setGuard_sdd (s : State) (z : ZoneId) (r : ClipGuard) : (s.setGuard z r).sdd = s.sdd := rfl
@[simp] theorem State.setGuard_lnk (s : State) (z : ZoneId) (r : ClipGuard) : (s.setGuard z r).lnk = s.lnk := rfl
@[simp] theorem State.setGuard_kpp (s : State) (z : ZoneId) (r : ClipGuard) : (s.setGuard z r).kpp = s.kpp := rfl
@[simp] theorem State.setGuard_now (s : State) (z : ZoneId) (r : ClipGuard) : (s.setGuard z r).now = s.now := rfl
@[simp] theorem State.setGuard_choices (s : State) (z : ZoneId) (r : ClipGuard) : (s.setGuard z r).choices = s.choices := rfl
@[simp] theorem State.setGuard_pending (s : State) (z : ZoneId) (r : ClipGuard) : (s.setGuard z r).pending = s.pending := rfl
@[simp] theorem State.setGuard_tlm_meas (s : State) (z : ZoneId) (r : ClipGuard) : (s.setGuard z r).tlm.meas = s.tlm.meas := rfl
@[simp] theorem State.setGuard_tlm_limits (s : State) (z : ZoneId) (r : ClipGuard) : (s.setGuard z r).tlm.limits = s.tlm.limits := rfl
@[simp] theorem State.setGuard_tlm_lock (s : State) (z : ZoneId) (r : ClipGuard) : (s.setGuard z r).tlm.lock = s.tlm.lock := rfl
@[simp] theorem State.setGuard_tlm_thermal (s : State) (z : ZoneId) (r : ClipGuard) : (s.setGuard z r).tlm.thermal = s.tlm.thermal := rfl
@[simp] theorem State.setGuard_tlm_hsWarm (s : State) (z : ZoneId) (r : ClipGuard) : (s.setGuard z r).tlm.hsWarm = s.tlm.hsWarm := rfl
@[simp] theorem State.setGuard_tlm_hsTrip (s : State) (z : ZoneId) (r : ClipGuard) : (s.setGuard z r).tlm.hsTrip = s.tlm.hsTrip := rfl
@[simp] theorem State.setGuard_tlm_railLow (s : State) (z : ZoneId) (r : ClipGuard) : (s.setGuard z r).tlm.railLow = s.tlm.railLow := rfl
@[simp] theorem State.setGuard_tlm_railHigh (s : State) (z : ZoneId) (r : ClipGuard) : (s.setGuard z r).tlm.railHigh = s.tlm.railHigh := rfl
@[simp] theorem State.setGuard_tlm_flags (s : State) (z : ZoneId) (r : ClipGuard) : (s.setGuard z r).tlm.flags = s.tlm.flags := rfl
@[simp] theorem State.setGuard_tlm_samplingTimer (s : State) (z : ZoneId) (r : ClipGuard) : (s.setGuard z r).tlm.samplingTimer = s.tlm.samplingTimer := rfl
@[simp] theorem State.setGuard_tlm_guards (s : State) (z : ZoneId) (r : ClipGuard) : (s.setGuard z r).tlm.guards = s.tlm.guards.set z.idx r := rfl
@[simp] theorem State.setGuard_zone (s : State) (z : ZoneId) (r : ClipGuard) (z' : ZoneId) : (s.setGuard z r).zone z' = s.zone z' := rfl
@[simp] theorem State.setGuard_src (s : State) (z : ZoneId) (r : ClipGuard) (x : Src) : (s.setGuard z r).src x = s.src x := rfl
@[simp] theorem State.setGuard_eng (s : State) (z : ZoneId) (r : ClipGuard) (e : EngineId) : (s.setGuard z r).eng e = s.eng e := rfl
@[simp] theorem State.setGuard_lev (s : State) (z : ZoneId) (r : ClipGuard) (o : OutId) : (s.setGuard z r).lev o = s.lev o := rfl
@[simp] theorem State.setGuard_chan (s : State) (z : ZoneId) (r : ClipGuard) (c : ChanId) : (s.setGuard z r).chan c = s.chan c := rfl
@[simp] theorem State.setGuard_pkg (s : State) (z : ZoneId) (r : ClipGuard) (p : PkgId) : (s.setGuard z r).pkg p = s.pkg p := rfl
@[simp] theorem State.setGuard_meas (s : State) (z : ZoneId) (r : ClipGuard) (i : Sensor) : (s.setGuard z r).meas i = s.meas i := rfl
@[simp] theorem State.setGuard_heat (s : State) (z : ZoneId) (r : ClipGuard) (p : PkgId) : (s.setGuard z r).heat p = s.heat p := rfl
@[simp] theorem State.setGuard_fan (s : State) (z : ZoneId) (r : ClipGuard) (f : FanId) : (s.setGuard z r).fan f = s.fan f := rfl
@[simp] theorem State.setGuard_link (s : State) (z : ZoneId) (r : ClipGuard) (l : Link) : (s.setGuard z r).link l = s.link l := rfl
@[simp] theorem State.setGuard_perm (s : State) (z : ZoneId) (r : ClipGuard) (q : Port) : (s.setGuard z r).perm q = s.perm q := rfl

@[simp] theorem State.setGuard_guard_self (s : State) (z : ZoneId) (r : ClipGuard) : (s.setGuard z r).guard z = r := Tab.get_set_self ..

theorem State.setGuard_guard (s : State) (z k : ZoneId) (r : ClipGuard) : (s.setGuard z r).guard k = if k = z then r else s.guard k := by
  show (s.tlm.guards.set z.idx r).get k.idx = _
  rw [Tab.get_set]
  simp only [ZoneId.idx_eq]
  rfl

@[simp] theorem State.setGuard_guard_ne (s : State) (z k : ZoneId) (r : ClipGuard) (h : k ≠ z) : (s.setGuard z r).guard k = s.guard k := by
  rw [State.setGuard_guard, if_neg h]

@[simp] theorem State.setGuard_guard_same (s : State) (z : ZoneId) : s.setGuard z (s.guard z) = s := by
  simp [State.setGuard, State.guard]

@[simp] theorem State.setGuard_setGuard (s : State) (z : ZoneId) (r q : ClipGuard) : (s.setGuard z r).setGuard z q = s.setGuard z q := by
  simp [State.setGuard]

theorem State.setGuard_comm (s : State) (z w : ZoneId) (r q : ClipGuard) (h : z ≠ w) :
    (s.setGuard z r).setGuard w q = (s.setGuard w q).setGuard z r := by
  unfold State.setGuard
  dsimp only
  rw [Tab.set_comm]
  exact fun e => h (ZoneId.idx_inj e)

/-! ## setFan -/

@[simp] theorem State.setFan_zc (s : State) (f : FanId) (r : FanRec) : (s.setFan f r).zc = s.zc := rfl
@[simp] theorem State.setFan_siu (s : State) (f : FanId) (r : FanRec) : (s.setFan f r).siu = s.siu := rfl
@[simp] theorem State.setFan_de (s : State) (f : FanId) (r : FanRec) : (s.setFan f r).de = s.de := rfl
@[simp] theorem State.setFan_cmap (s : State) (f : FanId) (r : FanRec) : (s.setFan f r).cmap = s.cmap := rfl
@[simp] theorem State.setFan_lvu (s : State) (f : FanId) (r : FanRec) : (s.setFan f r).lvu = s.lvu := rfl
@[simp] theorem State.setFan_acc (s : State) (f : FanId) (r : FanRec) : (s.setFan f r).acc = s.acc := rfl
@[simp] theorem State.setFan_tlm (s : State) (f : FanId) (r : FanRec) : (s.setFan f r).tlm = s.tlm := rfl
@[simp] theorem State.setFan_tun (s : State) (f : FanId) (r : FanRec) : (s.setFan f r).tun = s.tun := rfl
@[simp] theorem State.setFan_sdd (s : State) (f : FanId) (r : FanRec) : (s.setFan f r).sdd = s.sdd := rfl
@[simp] theorem State.setFan_lnk (s : State) (f : FanId) (r : FanRec) : (s.setFan f r).lnk = s.lnk := rfl
@[simp] theorem State.setFan_kpp (s : State) (f : FanId) (r : FanRec) : (s.setFan f r).kpp = s.kpp := rfl
@[simp] theorem State.setFan_now (s : State) (f : FanId) (r : FanRec) : (s.setFan f r).now = s.now := rfl
@[simp] theorem State.setFan_choices (s : State) (f : FanId) (r : FanRec) : (s.setFan f r).choices = s.choices := rfl
@[simp] theorem State.setFan_pending (s : State) (f : FanId) (r : FanRec) : (s.setFan f r).pending = s.pending := rfl
@[simp] theorem State.setFan_fnc_dutyTimer (s : State) (f : FanId) (r : FanRec) : (s.setFan f r).fnc.dutyTimer = s.fnc.dutyTimer := rfl
@[simp] theorem State.setFan_fnc_fans (s : State) (f : FanId) (r : FanRec) : (s.setFan f r).fnc.fans = s.fnc.fans.set f.idx r := rfl
@[simp] theorem State.setFan_zone (s : State) (f : FanId) (r : FanRec) (z : ZoneId) : (s.setFan f r).zone z = s.zone z := rfl
@[simp] theorem State.setFan_src (s : State) (f : FanId) (r : FanRec) (x : Src) : (s.setFan f r).src x = s.src x := rfl
@[simp] theorem State.setFan_eng (s : State) (f : FanId) (r : FanRec) (e : EngineId) : (s.setFan f r).eng e = s.eng e := rfl
@[simp] theorem State.setFan_lev (s : State) (f : FanId) (r : FanRec) (o : OutId) : (s.setFan f r).lev o = s.lev o := rfl
@[simp] theorem State.setFan_chan (s : State) (f : FanId) (r : FanRec) (c : ChanId) : (s.setFan f r).chan c = s.chan c := rfl
@[simp] theorem State.setFan_pkg (s : State) (f : FanId) (r : FanRec) (p : PkgId) : (s.setFan f r).pkg p = s.pkg p := rfl
@[simp] theorem State.setFan_meas (s : State) (f : FanId) (r : FanRec) (i : Sensor) : (s.setFan f r).meas i = s.meas i := rfl
@[simp] theorem State.setFan_heat (s : State) (f : FanId) (r : FanRec) (p : PkgId) : (s.setFan f r).heat p = s.heat p := rfl
@[simp] theorem State.setFan_guard (s : State) (f : FanId) (r : FanRec) (z : ZoneId) : (s.setFan f r).guard z = s.guard z := rfl
@[simp] theorem State.setFan_link (s : State) (f : FanId) (r : FanRec) (l : Link) : (s.setFan f r).link l = s.link l := rfl
@[simp] theorem State.setFan_perm (s : State) (f : FanId) (r : FanRec) (q : Port) : (s.setFan f r).perm q = s.perm q := rfl

@[simp] theorem State.setFan_fan_self (s : State) (f : FanId) (r : FanRec) : (s.setFan f r).fan f = r := Tab.get_set_self ..

theorem State.setFan_fan (s : State) (f k : FanId) (r : FanRec) : (s.setFan f r).fan k = if k = f then r else s.fan k := by
  show (s.fnc.fans.set f.idx r).get k.idx = _
  rw [Tab.get_set]
  simp only [FanId.idx_eq]
  rfl

@[simp] theorem State.setFan_fan_ne (s : State) (f k : FanId) (r : FanRec) (h : k ≠ f) : (s.setFan f r).fan k = s.fan k := by
  rw [State.setFan_fan, if_neg h]

@[simp] theorem State.setFan_fan_same (s : State) (f : FanId) : s.setFan f (s.fan f) = s := by
  simp [State.setFan, State.fan]

@[simp] theorem State.setFan_setFan (s : State) (f : FanId) (r q : FanRec) : (s.setFan f r).setFan f q = s.setFan f q := by
  simp [State.setFan]

theorem State.setFan_comm (s : State) (f w : FanId) (r q : FanRec) (h : f ≠ w) :
    (s.setFan f r).setFan w q = (s.setFan w q).setFan f r := by
  unfold State.setFan
  dsimp only
  rw [Tab.set_comm]
  exact fun e => h (FanId.idx_inj e)

/-! ## setLink -/

@[simp] theorem State.setLink_zc (s : State) (l : Link) (r : LinkRec) : (s.setLink l r).zc = s.zc := rfl
@[simp] theorem State.setLink_siu (s : State) (l : Link) (r : LinkRec) : (s.setLink l r).siu = s.siu := rfl
@[simp] theorem State.setLink_de (s : State) (l : Link) (r : LinkRec) : (s.setLink l r).de = s.de := rfl
@[simp] theorem State.setLink_cmap (s : State) (l : Link) (r : LinkRec) : (s.setLink l r).cmap = s.cmap := rfl
@[simp] theorem State.setLink_lvu (s : State) (l : Link) (r : LinkRec) : (s.setLink l r).lvu = s.lvu := rfl
@[simp] theorem State.setLink_acc (s : State) (l : Link) (r : LinkRec) : (s.setLink l r).acc = s.acc := rfl
@[simp] theorem State.setLink_tlm (s : State) (l : Link) (r : LinkRec) : (s.setLink l r).tlm = s.tlm := rfl
@[simp] theorem State.setLink_fnc (s : State) (l : Link) (r : LinkRec) : (s.setLink l r).fnc = s.fnc := rfl
@[simp] theorem State.setLink_tun (s : State) (l : Link) (r : LinkRec) : (s.setLink l r).tun = s.tun := rfl
@[simp] theorem State.setLink_sdd (s : State) (l : Link) (r : LinkRec) : (s.setLink l r).sdd = s.sdd := rfl
@[simp] theorem State.setLink_kpp (s : State) (l : Link) (r : LinkRec) : (s.setLink l r).kpp = s.kpp := rfl
@[simp] theorem State.setLink_now (s : State) (l : Link) (r : LinkRec) : (s.setLink l r).now = s.now := rfl
@[simp] theorem State.setLink_choices (s : State) (l : Link) (r : LinkRec) : (s.setLink l r).choices = s.choices := rfl
@[simp] theorem State.setLink_pending (s : State) (l : Link) (r : LinkRec) : (s.setLink l r).pending = s.pending := rfl
@[simp] theorem State.setLink_lnk_perms (s : State) (l : Link) (r : LinkRec) : (s.setLink l r).lnk.perms = s.lnk.perms := rfl
@[simp] theorem State.setLink_lnk_resetting (s : State) (l : Link) (r : LinkRec) : (s.setLink l r).lnk.resetting = s.lnk.resetting := rfl
@[simp] theorem State.setLink_lnk_links (s : State) (l : Link) (r : LinkRec) : (s.setLink l r).lnk.links = s.lnk.links.set l.idx r := rfl
@[simp] theorem State.setLink_zone (s : State) (l : Link) (r : LinkRec) (z : ZoneId) : (s.setLink l r).zone z = s.zone z := rfl
@[simp] theorem State.setLink_src (s : State) (l : Link) (r : LinkRec) (x : Src) : (s.setLink l r).src x = s.src x := rfl
@[simp] theorem State.setLink_eng (s : State) (l : Link) (r : LinkRec) (e : EngineId) : (s.setLink l r).eng e = s.eng e := rfl
@[simp] theorem State.setLink_lev (s : State) (l : Link) (r : LinkRec) (o : OutId) : (s.setLink l r).lev o = s.lev o := rfl
@[simp] theorem State.setLink_chan (s : State) (l : Link) (r : LinkRec) (c : ChanId) : (s.setLink l r).chan c = s.chan c := rfl
@[simp] theorem State.setLink_pkg (s : State) (l : Link) (r : LinkRec) (p : PkgId) : (s.setLink l r).pkg p = s.pkg p := rfl
@[simp] theorem State.setLink_meas (s : State) (l : Link) (r : LinkRec) (i : Sensor) : (s.setLink l r).meas i = s.meas i := rfl
@[simp] theorem State.setLink_heat (s : State) (l : Link) (r : LinkRec) (p : PkgId) : (s.setLink l r).heat p = s.heat p := rfl
@[simp] theorem State.setLink_guard (s : State) (l : Link) (r : LinkRec) (z : ZoneId) : (s.setLink l r).guard z = s.guard z := rfl
@[simp] theorem State.setLink_fan (s : State) (l : Link) (r : LinkRec) (f : FanId) : (s.setLink l r).fan f = s.fan f := rfl
@[simp] theorem State.setLink_perm (s : State) (l : Link) (r : LinkRec) (q : Port) : (s.setLink l r).perm q = s.perm q := rfl

@[simp] theorem State.setLink_link_self (s : State) (l : Link) (r : LinkRec) : (s.setLink l r).link l = r := Tab.get_set_self ..

theorem State.setLink_link (s : State) (l k : Link) (r : LinkRec) : (s.setLink l r).link k = if k = l then r else s.link k := by
  show (s.lnk.links.set l.idx r).get k.idx = _
  rw [Tab.get_set]
  simp only [Link.idx_eq]
  rfl

@[simp] theorem State.setLink_link_ne (s : State) (l k : Link) (r : LinkRec) (h : k ≠ l) : (s.setLink l r).link k = s.link k := by
  rw [State.setLink_link, if_neg h]

@[simp] theorem State.setLink_link_same (s : State) (l : Link) : s.setLink l (s.link l) = s := by
  simp [State.setLink, State.link]

@[simp] theorem State.setLink_setLink (s : State) (l : Link) (r q : LinkRec) : (s.setLink l r).setLink l q = s.setLink l q := by
  simp [State.setLink]

theorem State.setLink_comm (s : State) (l w : Link) (r q : LinkRec) (h : l ≠ w) :
    (s.setLink l r).setLink w q = (s.setLink w q).setLink l r := by
  unfold State.setLink
  dsimp only
  rw [Tab.set_comm]
  exact fun e => h (Link.idx_inj e)

@[simp] theorem State.updLink_eq (s : State) (l : Link) (f : LinkRec → LinkRec) : s.updLink l f = s.setLink l (f (s.link l)) := rfl

end Sys2Proof.Machine
end

