-- ==== Sys2Proof/Laws/Notices.lean ====
section
/-! SUPPORT. What accepting, posting and completing do to a link: everything they can do, said once. -/
namespace Sys2Proof.Machine

/-! ## A link takes a notice (R191) -/

/-- A notice accepted uses up a sequence number, and joins the queue or is dropped as an overrun; nothing else of the link changes. -/
theorem LinkRec.accept_eq (r : LinkRec) (b : NoticeBody) (o : Origin) :
    r.accept b o = { r with
      seq := r.seq + 1
      queue := if r.queue.length < 16 then r.queue ++ [⟨b, o, r.seq⟩] else r.queue
      overrun := if r.queue.length < 16 then r.overrun else true } := by
  unfold LinkRec.accept queueMax
  split <;> simp_all

@[simp] theorem LinkRec.accept_slots (r : LinkRec) (b : NoticeBody) (o : Origin) : (r.accept b o).slots = r.slots := by
  simp [LinkRec.accept_eq]
@[simp] theorem LinkRec.accept_take (r : LinkRec) (b : NoticeBody) (o : Origin) : (r.accept b o).take = r.take := by
  simp [LinkRec.accept_eq]
@[simp] theorem LinkRec.accept_mask (r : LinkRec) (b : NoticeBody) (o : Origin) : (r.accept b o).mask = r.mask := by
  simp [LinkRec.accept_eq]
@[simp] theorem LinkRec.accept_attention (r : LinkRec) (b : NoticeBody) (o : Origin) :
    (r.accept b o).attention = r.attention := by
  simp [LinkRec.accept_eq]
@[simp] theorem LinkRec.accept_gen (r : LinkRec) (b : NoticeBody) (o : Origin) : (r.accept b o).gen = r.gen := by
  simp [LinkRec.accept_eq]
@[simp] theorem LinkRec.accept_lastFrame (r : LinkRec) (b : NoticeBody) (o : Origin) :
    (r.accept b o).lastFrame = r.lastFrame := by
  simp [LinkRec.accept_eq]
@[simp] theorem LinkRec.accept_dataOut (r : LinkRec) (b : NoticeBody) (o : Origin) : (r.accept b o).dataOut = r.dataOut := by
  simp [LinkRec.accept_eq]

@[simp] theorem LinkRec.accept_reading (r : LinkRec) (b : NoticeBody) (o : Origin) : (r.accept b o).reading = r.reading := by
  simp [LinkRec.accept_eq]

/-- A queue of sixteen or fewer stays so. -/
theorem LinkRec.accept_queue_le (r : LinkRec) (b : NoticeBody) (o : Origin) (h : r.queue.length ≤ 16) :
    (r.accept b o).queue.length ≤ 16 := by
  simp only [LinkRec.accept_eq]
  split
  · simp; omega
  · exact h

@[simp] theorem LinkRec.offer_slots (r : LinkRec) (b : NoticeBody) (o : Origin) : (r.offer b o).slots = r.slots := by
  unfold LinkRec.offer; split <;> simp
@[simp] theorem LinkRec.offer_take (r : LinkRec) (b : NoticeBody) (o : Origin) : (r.offer b o).take = r.take := by
  unfold LinkRec.offer; split <;> simp
@[simp] theorem LinkRec.offer_mask (r : LinkRec) (b : NoticeBody) (o : Origin) : (r.offer b o).mask = r.mask := by
  unfold LinkRec.offer; split <;> simp
@[simp] theorem LinkRec.offer_attention (r : LinkRec) (b : NoticeBody) (o : Origin) :
    (r.offer b o).attention = r.attention := by
  unfold LinkRec.offer; split <;> simp
@[simp] theorem LinkRec.offer_gen (r : LinkRec) (b : NoticeBody) (o : Origin) : (r.offer b o).gen = r.gen := by
  unfold LinkRec.offer; split <;> simp

@[simp] theorem LinkRec.offer_reading (r : LinkRec) (b : NoticeBody) (o : Origin) : (r.offer b o).reading = r.reading := by
  unfold LinkRec.offer; split <;> simp

theorem LinkRec.offer_queue_le (r : LinkRec) (b : NoticeBody) (o : Origin) (h : r.queue.length ≤ 16) :
    (r.offer b o).queue.length ≤ 16 := by
  unfold LinkRec.offer
  split
  · exact r.accept_queue_le b o h
  · exact h

/-! ## Posting -/

/-- A notice posted is offered to both links, and changes nothing else. -/
theorem State.post_eq (s : State) (b : NoticeBody) (o : Origin) :
    s.post b o = (s.setLink .s ((s.link .s).offer b o)).setLink .n ((s.link .n).offer b o) := by
  simp [State.post]

theorem State.post_link (s : State) (b : NoticeBody) (o : Origin) (l : Link) : (s.post b o).link l = (s.link l).offer b o := by
  rw [State.post_eq]
  cases l <;> simp

@[simp] theorem State.post_zc (s : State) (b : NoticeBody) (o : Origin) : (s.post b o).zc = s.zc := rfl
@[simp] theorem State.post_siu (s : State) (b : NoticeBody) (o : Origin) : (s.post b o).siu = s.siu := rfl
@[simp] theorem State.post_de (s : State) (b : NoticeBody) (o : Origin) : (s.post b o).de = s.de := rfl
@[simp] theorem State.post_cmap (s : State) (b : NoticeBody) (o : Origin) : (s.post b o).cmap = s.cmap := rfl
@[simp] theorem State.post_lvu (s : State) (b : NoticeBody) (o : Origin) : (s.post b o).lvu = s.lvu := rfl
@[simp] theorem State.post_acc (s : State) (b : NoticeBody) (o : Origin) : (s.post b o).acc = s.acc := rfl
@[simp] theorem State.post_tlm (s : State) (b : NoticeBody) (o : Origin) : (s.post b o).tlm = s.tlm := rfl
@[simp] theorem State.post_fnc (s : State) (b : NoticeBody) (o : Origin) : (s.post b o).fnc = s.fnc := rfl
@[simp] theorem State.post_tun (s : State) (b : NoticeBody) (o : Origin) : (s.post b o).tun = s.tun := rfl
@[simp] theorem State.post_sdd (s : State) (b : NoticeBody) (o : Origin) : (s.post b o).sdd = s.sdd := rfl
@[simp] theorem State.post_kpp (s : State) (b : NoticeBody) (o : Origin) : (s.post b o).kpp = s.kpp := rfl
@[simp] theorem State.post_now (s : State) (b : NoticeBody) (o : Origin) : (s.post b o).now = s.now := rfl
@[simp] theorem State.post_choices (s : State) (b : NoticeBody) (o : Origin) : (s.post b o).choices = s.choices := rfl
@[simp] theorem State.post_pending (s : State) (b : NoticeBody) (o : Origin) : (s.post b o).pending = s.pending := rfl
@[simp] theorem State.post_zone (s : State) (b : NoticeBody) (o : Origin) (z : ZoneId) : (s.post b o).zone z = s.zone z := rfl
@[simp] theorem State.post_src (s : State) (b : NoticeBody) (o : Origin) (x : Src) : (s.post b o).src x = s.src x := rfl
@[simp] theorem State.post_eng (s : State) (b : NoticeBody) (o : Origin) (e : EngineId) : (s.post b o).eng e = s.eng e := rfl
@[simp] theorem State.post_lev (s : State) (b : NoticeBody) (o : Origin) (p : OutId) : (s.post b o).lev p = s.lev p := rfl
@[simp] theorem State.post_chan (s : State) (b : NoticeBody) (o : Origin) (c : ChanId) : (s.post b o).chan c = s.chan c := rfl
@[simp] theorem State.post_pkg (s : State) (b : NoticeBody) (o : Origin) (p : PkgId) : (s.post b o).pkg p = s.pkg p := rfl
@[simp] theorem State.post_meas (s : State) (b : NoticeBody) (o : Origin) (i : Sensor) : (s.post b o).meas i = s.meas i := rfl
@[simp] theorem State.post_heat (s : State) (b : NoticeBody) (o : Origin) (p : PkgId) : (s.post b o).heat p = s.heat p := rfl
@[simp] theorem State.post_guard (s : State) (b : NoticeBody) (o : Origin) (z : ZoneId) : (s.post b o).guard z = s.guard z := rfl
@[simp] theorem State.post_fan (s : State) (b : NoticeBody) (o : Origin) (f : FanId) : (s.post b o).fan f = s.fan f := rfl
@[simp] theorem State.post_perm (s : State) (b : NoticeBody) (o : Origin) (p : Port) : (s.post b o).perm p = s.perm p := rfl
@[simp] theorem State.post_lnk_perms (s : State) (b : NoticeBody) (o : Origin) : (s.post b o).lnk.perms = s.lnk.perms := rfl
@[simp] theorem State.post_lnk_resetting (s : State) (b : NoticeBody) (o : Origin) : (s.post b o).lnk.resetting = s.lnk.resetting := rfl

theorem State.posted_nil (s : State) : s.posted [] = s := rfl

theorem State.posted_cons (s : State) (n : NoticeBody × Origin) (l : List (NoticeBody × Origin)) :
    s.posted (n :: l) = (s.post n.1 n.2).posted l := rfl

theorem State.posted_one (s : State) (b : NoticeBody) (o : Origin) : s.posted [(b, o)] = s.post b o := rfl

/-- A setting event of a flag, in the two forms it is written in. -/
theorem setFlag_eq (f : FlagId) (s : State) : setFlag f s = s.flagged f := rfl

/-! ## Completing (R187, R188) -/

@[simp] theorem LinkRec.finishRest_mask (r : LinkRec) (st : Status) (i : Fin 8) (n : Nat) :
    (r.finishRest st i n).mask = r.mask := by
  induction n generalizing r i with
  | zero => rfl
  | succ k ih => simp [LinkRec.finishRest, ih]
@[simp] theorem LinkRec.finishRest_attention (r : LinkRec) (st : Status) (i : Fin 8) (n : Nat) :
    (r.finishRest st i n).attention = r.attention := by
  induction n generalizing r i with
  | zero => rfl
  | succ k ih => simp [LinkRec.finishRest, ih]
@[simp] theorem LinkRec.finishRest_queue (r : LinkRec) (st : Status) (i : Fin 8) (n : Nat) :
    (r.finishRest st i n).queue = r.queue := by
  induction n generalizing r i with
  | zero => rfl
  | succ k ih => simp [LinkRec.finishRest, ih]
@[simp] theorem LinkRec.finishRest_take (r : LinkRec) (st : Status) (i : Fin 8) (n : Nat) :
    (r.finishRest st i n).take = r.take := by
  induction n generalizing r i with
  | zero => rfl
  | succ k ih => simp [LinkRec.finishRest, ih]
@[simp] theorem LinkRec.finishRest_gen (r : LinkRec) (st : Status) (i : Fin 8) (n : Nat) :
    (r.finishRest st i n).gen = r.gen := by
  induction n generalizing r i with
  | zero => rfl
  | succ k ih => simp [LinkRec.finishRest, ih]

@[simp] theorem LinkRec.completeAs_mask (r : LinkRec) (t : Ticket) (st rest : Status) (p : Byte) (d : List Byte) (o : Origin) :
    (r.completeAs t st rest p d o).mask = r.mask := by
  unfold LinkRec.completeAs; simp only; split <;> simp
@[simp] theorem LinkRec.completeAs_attention (r : LinkRec) (t : Ticket) (st rest : Status) (p : Byte) (d : List Byte)
    (o : Origin) : (r.completeAs t st rest p d o).attention = r.attention := by
  unfold LinkRec.completeAs; simp only; split <;> simp
@[simp] theorem LinkRec.completeAs_take (r : LinkRec) (t : Ticket) (st rest : Status) (p : Byte) (d : List Byte)
    (o : Origin) : (r.completeAs t st rest p d o).take = r.take := by
  unfold LinkRec.completeAs; simp only; split <;> simp
@[simp] theorem LinkRec.completeAs_gen (r : LinkRec) (t : Ticket) (st rest : Status) (p : Byte) (d : List Byte)
    (o : Origin) : (r.completeAs t st rest p d o).gen = r.gen := by
  unfold LinkRec.completeAs; simp only; split <;> simp

theorem LinkRec.completeAs_queue_le (r : LinkRec) (t : Ticket) (st rest : Status) (p : Byte) (d : List Byte) (o : Origin)
    (h : r.queue.length ≤ 16) : (r.completeAs t st rest p d o).queue.length ≤ 16 := by
  unfold LinkRec.completeAs
  simp only
  split
  · apply LinkRec.accept_queue_le
    simpa using h
  · simpa using h

/-- A completion acts on its own link alone, or on nothing once the link has been reset. -/
theorem State.complete_eq (s : State) (t : Ticket) (st : Status) (p : Byte) (d : List Byte) :
    s.complete t st p d =
      if (s.link t.link).gen = t.gen then s.setLink t.link ((s.link t.link).complete t st p d t.link.origin) else s := rfl

@[simp] theorem State.complete_zc (s : State) (t : Ticket) (st : Status) (p : Byte) (d : List Byte) :
    (s.complete t st p d).zc = s.zc := by
  rw [State.complete_eq]; split <;> rfl
@[simp] theorem State.complete_siu (s : State) (t : Ticket) (st : Status) (p : Byte) (d : List Byte) :
    (s.complete t st p d).siu = s.siu := by
  rw [State.complete_eq]; split <;> rfl
@[simp] theorem State.complete_de (s : State) (t : Ticket) (st : Status) (p : Byte) (d : List Byte) :
    (s.complete t st p d).de = s.de := by
  rw [State.complete_eq]; split <;> rfl
@[simp] theorem State.complete_cmap (s : State) (t : Ticket) (st : Status) (p : Byte) (d : List Byte) :
    (s.complete t st p d).cmap = s.cmap := by
  rw [State.complete_eq]; split <;> rfl
@[simp] theorem State.complete_lvu (s : State) (t : Ticket) (st : Status) (p : Byte) (d : List Byte) :
    (s.complete t st p d).lvu = s.lvu := by
  rw [State.complete_eq]; split <;> rfl
@[simp] theorem State.complete_acc (s : State) (t : Ticket) (st : Status) (p : Byte) (d : List Byte) :
    (s.complete t st p d).acc = s.acc := by
  rw [State.complete_eq]; split <;> rfl
@[simp] theorem State.complete_tlm (s : State) (t : Ticket) (st : Status) (p : Byte) (d : List Byte) :
    (s.complete t st p d).tlm = s.tlm := by
  rw [State.complete_eq]; split <;> rfl
@[simp] theorem State.complete_fnc (s : State) (t : Ticket) (st : Status) (p : Byte) (d : List Byte) :
    (s.complete t st p d).fnc = s.fnc := by
  rw [State.complete_eq]; split <;> rfl
@[simp] theorem State.complete_tun (s : State) (t : Ticket) (st : Status) (p : Byte) (d : List Byte) :
    (s.complete t st p d).tun = s.tun := by
  rw [State.complete_eq]; split <;> rfl
@[simp] theorem State.complete_sdd (s : State) (t : Ticket) (st : Status) (p : Byte) (d : List Byte) :
    (s.complete t st p d).sdd = s.sdd := by
  rw [State.complete_eq]; split <;> rfl
@[simp] theorem State.complete_kpp (s : State) (t : Ticket) (st : Status) (p : Byte) (d : List Byte) :
    (s.complete t st p d).kpp = s.kpp := by
  rw [State.complete_eq]; split <;> rfl
@[simp] theorem State.complete_now (s : State) (t : Ticket) (st : Status) (p : Byte) (d : List Byte) :
    (s.complete t st p d).now = s.now := by
  rw [State.complete_eq]; split <;> rfl
@[simp] theorem State.complete_choices (s : State) (t : Ticket) (st : Status) (p : Byte) (d : List Byte) :
    (s.complete t st p d).choices = s.choices := by
  rw [State.complete_eq]; split <;> rfl
@[simp] theorem State.complete_pending (s : State) (t : Ticket) (st : Status) (p : Byte) (d : List Byte) :
    (s.complete t st p d).pending = s.pending := by
  rw [State.complete_eq]; split <;> rfl
@[simp] theorem State.complete_zone (s : State) (t : Ticket) (st : Status) (pg : Byte) (d : List Byte) (z : ZoneId) :
    (s.complete t st pg d).zone z = s.zone z := by
  rw [State.complete_eq]; split <;> rfl
@[simp] theorem State.complete_src (s : State) (t : Ticket) (st : Status) (pg : Byte) (d : List Byte) (x : Src) :
    (s.complete t st pg d).src x = s.src x := by
  rw [State.complete_eq]; split <;> rfl
@[simp] theorem State.complete_eng (s : State) (t : Ticket) (st : Status) (pg : Byte) (d : List Byte) (e : EngineId) :
    (s.complete t st pg d).eng e = s.eng e := by
  rw [State.complete_eq]; split <;> rfl
@[simp] theorem State.complete_lev (s : State) (t : Ticket) (st : Status) (pg : Byte) (d : List Byte) (p : OutId) :
    (s.complete t st pg d).lev p = s.lev p := by
  rw [State.complete_eq]; split <;> rfl
@[simp] theorem State.complete_chan (s : State) (t : Ticket) (st : Status) (pg : Byte) (d : List Byte) (c : ChanId) :
    (s.complete t st pg d).chan c = s.chan c := by
  rw [State.complete_eq]; split <;> rfl
@[simp] theorem State.complete_pkg (s : State) (t : Ticket) (st : Status) (pg : Byte) (d : List Byte) (p : PkgId) :
    (s.complete t st pg d).pkg p = s.pkg p := by
  rw [State.complete_eq]; split <;> rfl
@[simp] theorem State.complete_meas (s : State) (t : Ticket) (st : Status) (pg : Byte) (d : List Byte) (i : Sensor) :
    (s.complete t st pg d).meas i = s.meas i := by
  rw [State.complete_eq]; split <;> rfl
@[simp] theorem State.complete_heat (s : State) (t : Ticket) (st : Status) (pg : Byte) (d : List Byte) (p : PkgId) :
    (s.complete t st pg d).heat p = s.heat p := by
  rw [State.complete_eq]; split <;> rfl
@[simp] theorem State.complete_guard (s : State) (t : Ticket) (st : Status) (pg : Byte) (d : List Byte) (z : ZoneId) :
    (s.complete t st pg d).guard z = s.guard z := by
  rw [State.complete_eq]; split <;> rfl
@[simp] theorem State.complete_fan (s : State) (t : Ticket) (st : Status) (pg : Byte) (d : List Byte) (f : FanId) :
    (s.complete t st pg d).fan f = s.fan f := by
  rw [State.complete_eq]; split <;> rfl
@[simp] theorem State.complete_perm (s : State) (t : Ticket) (st : Status) (pg : Byte) (d : List Byte) (p : Port) :
    (s.complete t st pg d).perm p = s.perm p := by
  rw [State.complete_eq]; split <;> rfl
@[simp] theorem State.completeOpt_zc (s : State) (t : Option Ticket) (st : Status) (d : List Byte) :
    (s.completeOpt t st d).zc = s.zc := by
  cases t <;> simp [State.completeOpt]
@[simp] theorem State.completeOpt_siu (s : State) (t : Option Ticket) (st : Status) (d : List Byte) :
    (s.completeOpt t st d).siu = s.siu := by
  cases t <;> simp [State.completeOpt]
@[simp] theorem State.completeOpt_de (s : State) (t : Option Ticket) (st : Status) (d : List Byte) :
    (s.completeOpt t st d).de = s.de := by
  cases t <;> simp [State.completeOpt]
@[simp] theorem State.completeOpt_cmap (s : State) (t : Option Ticket) (st : Status) (d : List Byte) :
    (s.completeOpt t st d).cmap = s.cmap := by
  cases t <;> simp [State.completeOpt]
@[simp] theorem State.completeOpt_lvu (s : State) (t : Option Ticket) (st : Status) (d : List Byte) :
    (s.completeOpt t st d).lvu = s.lvu := by
  cases t <;> simp [State.completeOpt]
@[simp] theorem State.completeOpt_acc (s : State) (t : Option Ticket) (st : Status) (d : List Byte) :
    (s.completeOpt t st d).acc = s.acc := by
  cases t <;> simp [State.completeOpt]
@[simp] theorem State.completeOpt_tlm (s : State) (t : Option Ticket) (st : Status) (d : List Byte) :
    (s.completeOpt t st d).tlm = s.tlm := by
  cases t <;> simp [State.completeOpt]
@[simp] theorem State.completeOpt_fnc (s : State) (t : Option Ticket) (st : Status) (d : List Byte) :
    (s.completeOpt t st d).fnc = s.fnc := by
  cases t <;> simp [State.completeOpt]
@[simp] theorem State.completeOpt_tun (s : State) (t : Option Ticket) (st : Status) (d : List Byte) :
    (s.completeOpt t st d).tun = s.tun := by
  cases t <;> simp [State.completeOpt]
@[simp] theorem State.completeOpt_sdd (s : State) (t : Option Ticket) (st : Status) (d : List Byte) :
    (s.completeOpt t st d).sdd = s.sdd := by
  cases t <;> simp [State.completeOpt]
@[simp] theorem State.completeOpt_kpp (s : State) (t : Option Ticket) (st : Status) (d : List Byte) :
    (s.completeOpt t st d).kpp = s.kpp := by
  cases t <;> simp [State.completeOpt]
@[simp] theorem State.completeOpt_now (s : State) (t : Option Ticket) (st : Status) (d : List Byte) :
    (s.completeOpt t st d).now = s.now := by
  cases t <;> simp [State.completeOpt]
@[simp] theorem State.completeOpt_choices (s : State) (t : Option Ticket) (st : Status) (d : List Byte) :
    (s.completeOpt t st d).choices = s.choices := by
  cases t <;> simp [State.completeOpt]
@[simp] theorem State.completeOpt_pending (s : State) (t : Option Ticket) (st : Status) (d : List Byte) :
    (s.completeOpt t st d).pending = s.pending := by
  cases t <;> simp [State.completeOpt]
@[simp] theorem State.complete_lnk_perms (s : State) (t : Ticket) (st : Status) (p : Byte) (d : List Byte) :
    (s.complete t st p d).lnk.perms = s.lnk.perms := by
  rw [State.complete_eq]; split <;> rfl
@[simp] theorem State.complete_lnk_resetting (s : State) (t : Ticket) (st : Status) (p : Byte) (d : List Byte) :
    (s.complete t st p d).lnk.resetting = s.lnk.resetting := by
  rw [State.complete_eq]; split <;> rfl

/-! ## READ_NOTICES (R193) -/

/-- A READ_NOTICES with nothing between its header and its end: what it sends, what leaves the queue, and that the overrun flag is cleared. -/
theorem LinkRec.readWhole_eq (r : LinkRec) (arg : Byte) (n : Nat) (o : FrameOutcome) :
    r.readWhole arg n o = { r with
      queue := r.queue.drop (noticesOut (noticesSent r arg) n)
      overrun := false
      lastFrame := o
      dataOut := frameStatus .accepted :: fitBytes n (noticesAnswer r arg)
      reading := none } := by
  simp [LinkRec.readWhole, LinkRec.readOpen, LinkRec.readShift, LinkRec.readClose, noticesOut]

/-- Bytes shifted out in two goes are shifted out as in one. -/
theorem LinkRec.readShift_add (r : LinkRec) (m n : Nat) : (r.readShift m).readShift n = r.readShift (m + n) := by
  unfold LinkRec.readShift
  cases h : r.reading with
  | none => simp [h]
  | some k =>
    have : noticesOut k.sent k.shifted ≤ noticesOut k.sent (k.shifted + m) := by unfold noticesOut; omega
    have : noticesOut k.sent (k.shifted + m) ≤ noticesOut k.sent (k.shifted + m + n) := by unfold noticesOut; omega
    simp only [List.drop_drop, Nat.add_assoc]
    congr 2
    · rw [Nat.add_assoc] at *
      omega
    · have : (if n = 0 then if m = 0 then k.stall else stallMs else stallMs) = if m + n = 0 then k.stall else stallMs := by
        by_cases hn : n = 0 <;> by_cases hm : m = 0 <;> simp [hn, hm]
      rw [this]

end Sys2Proof.Machine
end

