-- ==== Sys2Proof/Laws/Requests.lean ====
section
/-! SUPPORT. What becomes of a request that arrives at its link's take pointer: its slots, the owner's work, the answer (R186 to R188).

`sendRequest_answers` is the lemma a statement about one request cites; `State.takenLong_…` say that the take and the owner's writes go by each other.
-/
namespace Sys2Proof.Machine

/-! ## Places round a ring -/

/-- How many places a slot stands behind another, round the ring. -/
def placesBehind (i j : Fin 8) : Nat := (j.val + 8 - i.val) % 8

theorem slotAfter_eq_iff (i j : Fin 8) {k : Nat} (h : k < 8) : slotAfter i k = j ↔ k = placesBehind i j := by
  unfold slotAfter placesBehind
  rw [Fin.ext_iff]
  have := i.isLt
  have := j.isLt
  dsimp only
  omega

theorem slotAfter_add (i : Fin 8) (a b : Nat) : slotAfter (slotAfter i a) b = slotAfter i (a + b) := by
  unfold slotAfter
  apply Fin.ext
  dsimp only
  omega

@[simp] theorem slotAfter_zero (i : Fin 8) : slotAfter i 0 = i := by
  unfold slotAfter
  apply Fin.ext
  have := i.isLt
  dsimp only
  omega

@[simp] theorem slotAfter_eight (i : Fin 8) : slotAfter i 8 = i := by
  unfold slotAfter
  apply Fin.ext
  have := i.isLt
  dsimp only
  omega

theorem slotAfter_one (i : Fin 8) : i + 1 = slotAfter i 1 := by
  unfold slotAfter
  apply Fin.ext
  rw [Fin.val_add]
  rfl

/-- What a table reads after the slots from one on are written in turn. -/
theorem get_fill {α : Type} (i j : Fin 8) (f : Nat → α) (n : Nat) (h : n ≤ 8) (t : Tab 8 α) :
    ((List.range n).foldl (fun t k => t.set (slotAfter i k) (f k)) t).get j =
      if placesBehind i j < n then f (placesBehind i j) else t.get j := by
  induction n with
  | zero => simp
  | succ n ih =>
    rw [List.range_succ, List.foldl_append]
    simp only [List.foldl_cons, List.foldl_nil]
    rw [Tab.get_set, ih (by omega)]
    by_cases e : j = slotAfter i n
    · have := (slotAfter_eq_iff i j (by omega)).mp e.symm
      simp [e.symm, ← this]
    · have : n ≠ placesBehind i j := fun h => e ((slotAfter_eq_iff i j (by omega)).mpr h).symm
      rw [if_neg e]
      split <;> split <;> first | rfl | omega

/-! ## The slots of a take -/

theorem foldl_slots (g : LinkRec → Nat → Slot) (i : Fin 8) (hg : ∀ (r : LinkRec) (t : Tab 8 Slot) (k : Nat), g { r with slots := t } k = g r k)
    (l : List Nat) (r : LinkRec) :
    l.foldl (fun (q : LinkRec) k => { q with slots := q.slots.set (slotAfter i k) (g q k) }) r =
      { r with slots := l.foldl (fun t k => t.set (slotAfter i k) (g r k)) r.slots } := by
  induction l generalizing r with
  | nil => rfl
  | cons k l ih =>
    rw [List.foldl_cons, ih]
    simp only [hg, List.foldl_cons]

theorem present_eq (h : ReqHead) (kind : Byte) (data : List Byte) (s : State) :
    present h kind data s = s.updLink h.link (fun r =>
      { r with slots := (List.range h.slots).foldl (fun t k => t.set (slotAfter r.take k) ⟨.queued, requestRecord h kind data k⟩) r.slots }) := by
  unfold present State.updLink
  congr 1
  exact foldl_slots (fun _ k => ⟨.queued, requestRecord h kind data k⟩) _ (fun _ _ _ => rfl) _ _

theorem setPhases_eq (ph : Phase) (l : List (Fin 8)) (r : LinkRec) :
    setPhases ph l r = { r with slots := l.foldl (fun t i => t.set i { t.get i with phase := ph }) r.slots } := by
  unfold setPhases
  induction l generalizing r with
  | nil => rfl
  | cons i l ih => rw [List.foldl_cons, ih, List.foldl_cons]

theorem get_phases (ph : Phase) (i j : Fin 8) (n : Nat) (h : n ≤ 8) (t : Tab 8 Slot) :
    ((slotsFrom i n).foldl (fun t i => t.set i { t.get i with phase := ph }) t).get j =
      if placesBehind i j < n then { t.get j with phase := ph } else t.get j := by
  unfold slotsFrom
  induction n with
  | zero => simp
  | succ n ih =>
    rw [List.range_succ, List.map_append, List.foldl_append]
    simp only [List.map_cons, List.map_nil, List.foldl_cons, List.foldl_nil]
    rw [Tab.get_set]
    by_cases e : j = slotAfter i n
    · have := (slotAfter_eq_iff i j (by omega)).mp e.symm
      rw [if_pos e, ← e, ih (by omega)]
      simp [← this]
    · have : n ≠ placesBehind i j := fun h => e ((slotAfter_eq_iff i j (by omega)).mpr h).symm
      rw [if_neg e, ih (by omega)]
      split <;> split <;> first | rfl | omega

/-- A request that has arrived and is claimed is a long request taken (R186). -/
theorem claim_present (h : ReqHead) (kind : Byte) (data : List Byte) (s : State) (hn : h.slots ≤ 8) :
    claim h (present h kind data s) = s.takenLong h kind data := by
  unfold claim State.takenLong
  rw [present_eq]
  simp only [State.updLink_eq, State.setLink_link_self, State.setLink_setLink, setPhases_eq]
  congr 2
  apply Tab.ext_get
  intro j
  rw [get_phases _ _ _ _ hn, get_fill _ _ _ _ hn, get_fill _ _ _ _ hn]
  split <;> rfl

/-! ## The slots of an answer -/

theorem finishRest_eq (st : Status) (n : Nat) (r : LinkRec) (i : Fin 8) :
    r.finishRest st i n = { r with slots := (r.finishRest st i n).slots } := by
  induction n generalizing r i with
  | zero => rfl
  | succ n ih =>
    unfold LinkRec.finishRest
    dsimp only
    rw [ih]

theorem get_finishRest (st : Status) (i j : Fin 8) (n : Nat) (h : n < 8) (r : LinkRec) :
    (r.finishRest st i n).slots.get j =
      if 1 ≤ placesBehind i j ∧ placesBehind i j ≤ n then
        ⟨.done, resultRecord continuationKind st ((r.slots.get j).record.getD 1 0) 0 0 []⟩
      else r.slots.get j := by
  induction n generalizing r i with
  | zero =>
    rw [if_neg (by omega)]
    rfl
  | succ n ih =>
    unfold LinkRec.finishRest
    dsimp only
    rw [ih _ (by omega), Tab.get_set, slotAfter_one]
    have hb : placesBehind (slotAfter i 1) j = (placesBehind i j + 7) % 8 := by
      unfold placesBehind slotAfter
      have := i.isLt
      have := j.isLt
      dsimp only
      omega
    have he := slotAfter_eq_iff i j (k := 1) (by omega)
    have hl : placesBehind i j < 8 := Nat.mod_lt _ (by decide)
    by_cases e : j = slotAfter i 1
    · have := he.mp e.symm
      rw [if_neg (by omega), if_pos e, if_pos (by omega), ← e]
    · have : 1 ≠ placesBehind i j := fun h => e (he.mpr h).symm
      simp only [if_neg e]
      split <;> split <;> first | rfl | omega

theorem requestRecord_tag (h : ReqHead) (kind : Byte) (data : List Byte) (k : Nat) (hk : k ≠ 0) :
    (requestRecord h kind data k).getD 1 0 = h.tag := by
  unfold requestRecord
  rw [if_neg hk]
  rfl

/-- A request that has been taken and completes leaves its link as an answer does (R187, R188). -/
theorem completeAs_taken (h : ReqHead) (kind : Byte) (sent : List Byte) (st rest : Status) (page : Byte) (data : List Byte)
    (s : State) (h1 : 1 ≤ h.slots) (h8 : h.slots ≤ 8) :
    (s.takenLong h kind sent).updLink h.link (fun r => r.completeAs (ticketAt (s.link h.link) h kind) st rest page data h.link.origin) =
      s.answerAs h kind st rest page data := by
  unfold State.takenLong State.answerAs
  simp only [State.updLink_eq, State.setLink_link_self, State.setLink_setLink]
  congr 1
  unfold LinkRec.completeAs
  dsimp only
  rw [finishRest_eq]
  have slots : ∀ (r : LinkRec) (t : Tab 8 Slot) (w : Fin 8) (b : NoticeBody) (o : Origin),
      ({ r with slots := t, take := w } : LinkRec).accept b o = { (r.accept b o) with slots := t, take := w } := by
    intro r t w b o
    unfold LinkRec.accept
    dsimp only
    split <;> rfl
  have same : (({ s.link h.link with
        slots := ((List.range h.slots).foldl (fun t k => t.set (slotAfter (s.link h.link).take k) ⟨.inFlight, requestRecord h kind sent k⟩)
          (s.link h.link).slots).set (s.link h.link).take ⟨.done, resultRecord kind st h.tag h.target page data⟩
        take := slotAfter (s.link h.link).take h.slots } : LinkRec).finishRest rest (s.link h.link).take (h.slots - 1)).slots =
      answeredSlots (s.link h.link) h kind st rest page data := by
    apply Tab.ext_get
    intro j
    unfold answeredSlots
    rw [get_finishRest _ _ _ _ (by omega), get_fill _ _ _ _ h8]
    dsimp only
    rw [Tab.get_set, get_fill _ _ _ _ h8]
    have he := slotAfter_eq_iff (s.link h.link).take j (k := 0) (by omega)
    rw [slotAfter_zero] at he
    by_cases e : j = (s.link h.link).take
    · have := he.mp e.symm
      rw [if_neg (by omega), if_pos e, if_pos (by omega), if_pos this.symm]
    · have hne : placesBehind (s.link h.link).take j ≠ 0 := fun k => e (he.mpr k.symm).symm
      by_cases l : placesBehind (s.link h.link).take j < h.slots
      · rw [if_pos (by omega), if_neg e, if_pos l, if_pos l, if_neg hne]
        dsimp only
        rw [requestRecord_tag _ _ _ _ hne]
      · rw [if_neg (by omega), if_neg e, if_neg l, if_neg l]
  simp only [ticketAt]
  rw [same]
  by_cases n : h.notify = true
  · simp only [n, if_true]
    exact slots _ _ _ _ _
  · simp only [n, if_false, Bool.false_eq_true]

/-- A request that has been taken is answered when its owner completes it (R187). -/
theorem complete_taken (h : ReqHead) (kind : Byte) (sent : List Byte) (st : Status) (page : Byte) (data : List Byte)
    (s : State) (h1 : 1 ≤ h.slots) (h8 : h.slots ≤ 8) :
    (s.takenLong h kind sent).complete (ticketAt (s.link h.link) h kind) st page data = s.answer h kind st page data := by
  rw [State.complete_eq, if_pos]
  · exact completeAs_taken h kind sent st .ok page data s h1 h8
  · show ((s.takenLong h kind sent).link h.link).gen = (s.link h.link).gen
    unfold State.takenLong
    simp

/-! ## The arrival -/

/-- A ring in which no slot waits at the take pointer is left as it is. -/
theorem serveRing_idle (l : Link) (n : Nat) (s : State) (h : canTake s l = false) : serveRing l n s = s := by
  cases n <;> simp [serveRing, h]

theorem ringReady_slots {s : State} {h : ReqHead} (r : ringReady s h = true) : 1 ≤ h.slots ∧ h.slots ≤ 8 := by
  simp only [ringReady, Bool.and_eq_true, ringSize] at r
  exact of_decide_eq_true r.1.2

/-- What the checks that make a request arrive say (R186). -/
theorem arrives_iff (h : ReqHead) (kind : Byte) (s : State) :
    arrives h kind s = true ↔ ringReady s h = true ∧ nextIdle s h = true ∧
      ∃ line, catalogue kind = some line ∧ h.slots ≤ line.chain ∧ checkFails s h line = none := by
  unfold arrives
  cases catalogue kind <;> simp [and_assoc, Option.isNone_iff_eq_none]

theorem checkFails_present (h : ReqHead) (kind : Byte) (data : List Byte) (line : Line) (s : State) :
    checkFails (present h kind data s) h line = checkFails s h line := by
  rw [present_eq]
  rfl

theorem ticketAt_present (h : ReqHead) (kind : Byte) (data : List Byte) (s : State) :
    ticketAt ((present h kind data s).link h.link) h kind = ticketAt (s.link h.link) h kind := by
  rw [present_eq]
  simp [ticketAt]

/-- Data of at most eleven bytes fit in any request (section 10.8). -/
theorem dataFits_small {data : List Byte} (slots : Nat) (h : data.length ≤ 11) : dataFits slots data = true :=
  decide_eq_true (by omega)

theorem Request.fitted_kind (q : Request) (n : Nat) : (q.fitted n).kind = q.kind := by
  unfold Request.fitted
  split <;> rfl

/-- The owner's work on a request that arrives, or CHAIN_SHORT where its data outrun its slots, and then the takes behind it (R186, R187, R189). -/
theorem sendRequest_fitted (h : ReqHead) (q : Request) (s : State) (a : arrives h q.kind s = true) :
    sendRequest h q s =
      serveRing h.link ringSize
        (match (q.fitted h.slots).run (ticketAt (s.link h.link) h q.kind) (s.takenLong h q.kind q.data) with
          | (t, .done st page data) => t.complete (ticketAt (s.link h.link) h q.kind) st page data
          | (t, .later) => t) := by
  obtain ⟨ready, _, line, hl, hc, hn⟩ := (arrives_iff ..).mp a
  unfold sendRequest
  rw [if_pos ready]
  simp only [hl]
  rw [if_neg (by omega)]
  congr 1
  unfold takeRequest
  simp only [Request.fitted_kind, hl, checkFails_present, hn, ticketAt_present,
    claim_present h q.kind q.data s (ringReady_slots ready).2]
  all_goals rfl

/-- The owner's work on a request that arrives with data that fit, and then the takes behind it (R186, R187). -/
theorem sendRequest_eq (h : ReqHead) (q : Request) (s : State) (a : arrives h q.kind s = true)
    (f : dataFits h.slots q.data = true) :
    sendRequest h q s =
      serveRing h.link ringSize
        (match q.run (ticketAt (s.link h.link) h q.kind) (s.takenLong h q.kind q.data) with
          | (t, .done st page data) => t.complete (ticketAt (s.link h.link) h q.kind) st page data
          | (t, .later) => t) := by
  rw [sendRequest_fitted h q s a]
  unfold Request.fitted
  rw [if_pos f]

/-- With nothing waiting behind it, an answered request leaves nothing to take (R186). -/
theorem canTake_answer (h : ReqHead) (kind : Byte) (st rest : Status) (page : Byte) (data : List Byte) (s : State)
    (h8 : h.slots ≤ 8) (n : nextIdle s h = true) : canTake (s.answerAs h kind st rest page data) h.link = false := by
  have key : (answeredSlots (s.link h.link) h kind st rest page data).get (slotAfter (s.link h.link).take h.slots) =
      (if h.slots = 8 then ⟨.done, resultRecord kind st h.tag h.target page data⟩
        else (s.link h.link).slots.get (slotAfter (s.link h.link).take h.slots)) := by
    unfold answeredSlots
    rw [get_fill _ _ _ _ h8]
    by_cases e : h.slots = 8
    · have := (slotAfter_eq_iff (s.link h.link).take (s.link h.link).take (k := 0) (by omega)).mp (slotAfter_zero _)
      rw [e, slotAfter_eight, ← this, if_pos (by omega), if_pos rfl, if_pos rfl]
    · have := (slotAfter_eq_iff (s.link h.link).take _ (by omega)).mp (rfl : slotAfter (s.link h.link).take h.slots = _)
      rw [← this, if_neg (by omega), if_neg e]
  unfold canTake State.answerAs
  simp only [nextIdle, bne_iff_ne, ne_eq] at n
  simp only [State.updLink_eq, State.setLink_link_self, Bool.and_eq_false_iff, beq_eq_false_iff_ne, ne_eq]
  right
  rw [key]
  split
  · intro e
    cases e
  · exact n

/-- **A request that its owner has done with at the take.**
The owner's work leaves a state `u` with the request's slots taken; the step leaves `u` with the answer. -/
theorem sendRequest_answers (h : ReqHead) (q : Request) (s u : State) (st : Status) (page : Byte) (data : List Byte)
    (a : arrives h q.kind s = true) (f : dataFits h.slots q.data = true)
    (run : q.run (ticketAt (s.link h.link) h q.kind) (s.takenLong h q.kind q.data) =
      (u.takenLong h q.kind q.data, .done st page data))
    (slots : (u.link h.link).slots = (s.link h.link).slots) (take : (u.link h.link).take = (s.link h.link).take)
    (gen : (u.link h.link).gen = (s.link h.link).gen) : sendRequest h q s = u.answer h q.kind st page data := by
  obtain ⟨ready, next, -⟩ := (arrives_iff ..).mp a
  have hs := ringReady_slots ready
  have same : ticketAt (s.link h.link) h q.kind = ticketAt (u.link h.link) h q.kind := by simp [ticketAt, take, gen]
  rw [sendRequest_eq h q s a f, run, same]
  dsimp only
  rw [complete_taken _ _ _ _ _ _ _ hs.1 hs.2]
  exact serveRing_idle _ _ _ (canTake_answer _ _ _ _ _ _ _ hs.2 (by rw [nextIdle, slots, take]; exact next))

/-- **A request that changes nothing is answered.** -/
theorem sendRequest_answers_same (h : ReqHead) (q : Request) (s : State) (st : Status) (page : Byte) (data : List Byte)
    (a : arrives h q.kind s = true) (f : dataFits h.slots q.data = true)
    (run : q.run (ticketAt (s.link h.link) h q.kind) (s.takenLong h q.kind q.data) =
      (s.takenLong h q.kind q.data, .done st page data)) :
    sendRequest h q s = s.answer h q.kind st page data :=
  sendRequest_answers h q s s st page data a f run rfl rfl rfl

/-- **A request whose data outrun its slots** is answered CHAIN_SHORT, and its owner is not asked (R189). -/
theorem sendRequest_short (h : ReqHead) (q : Request) (s : State) (a : arrives h q.kind s = true)
    (f : dataFits h.slots q.data = false) : sendRequest h q s = s.answer h q.kind .chainShort 0 [] := by
  obtain ⟨ready, next, -⟩ := (arrives_iff ..).mp a
  have hs := ringReady_slots ready
  rw [sendRequest_fitted h q s a]
  unfold Request.fitted
  simp only [f, if_false, Bool.false_eq_true, Reply.plain]
  rw [complete_taken _ _ _ _ _ _ _ hs.1 hs.2]
  exact serveRing_idle _ _ _ (canTake_answer _ _ _ _ _ _ _ hs.2 next)

/-- **A long request** leaves the state its owner leaves, with the slots taken, if nothing waits at the pointer then (R187). -/
theorem sendRequest_later (h : ReqHead) (q : Request) (s t : State) (a : arrives h q.kind s = true)
    (f : dataFits h.slots q.data = true)
    (run : q.run (ticketAt (s.link h.link) h q.kind) (s.takenLong h q.kind q.data) = (t, .later))
    (idle : canTake t h.link = false) : sendRequest h q s = t := by
  rw [sendRequest_eq h q s a f, run]
  exact serveRing_idle _ _ _ idle

/-! ## How long request data are (R197) -/

@[simp] theorem u8_length (n : Nat) : (u8 n).length = 1 := rfl
@[simp] theorem u16_length (n : Nat) : (u16 n).length = 2 := rfl
@[simp] theorem u24_length (n : Nat) : (u24 n).length = 3 := rfl
@[simp] theorem u32_length (n : Nat) : (u32 n).length = 4 := rfl
@[simp] theorem s8_length (i : Int) : (s8 i).length = 1 := rfl
@[simp] theorem s16_length (i : Int) : (s16 i).length = 2 := rfl
@[simp] theorem flagByte_length (b : Bool) : (flagByte b).length = 1 := rfl
@[simp] theorem codeWord_length (c : BitVec 16) : (codeWord c).length = 2 := rfl

@[simp] theorem volumeData_length (v : VolumeArg) : (volumeData v).length = 3 := by cases v <;> rfl
@[simp] theorem muteData_length (m : MuteArg) : (muteData m).length = 1 := by cases m <;> rfl
@[simp] theorem limitsData_length (a : Limits) : (limitsData a).length = 17 := by simp [limitsData]
@[simp] theorem fanData_length (a : FanSettings) : (fanData a).length = 23 := by simp [fanData]

/-- The kinds whose data can outrun one slot: ZONE_SOURCE_RING, AMP_ASSIGN, PROT_LIMITS, FAN_CURVE, PRESET_UPLOAD, KEYMAP_LOAD. -/
def canOutrun (kind : Byte) : Bool :=
  kind == 0x09 || kind == 0x13 || kind == 0x16 || kind == 0x1B || kind == 0x28 || kind == 0x2F

/-- The data of every other request fit in its first slot. -/
theorem requestOf_fits (i : Instr) (h : ReqHead) (q : Request) (e : requestOf i = some (h, q)) (k : canOutrun q.kind = false)
    (slots : Nat) : dataFits slots q.data = true := by
  apply dataFits_small
  cases i <;> simp only [requestOf, Option.some.injEq, Prod.mk.injEq, reduceCtorEq] at e <;>
    first
    | exact e.elim
    | (obtain ⟨-, rfl⟩ := e
       first
       | exact absurd (show true = false from k) (by decide)
       | (rename_i home _ _; cases home <;> exact Nat.le_of_ble_eq_true rfl)
       | exact Nat.le_of_ble_eq_true rfl
       | (rename_i v; cases v <;> exact Nat.le_of_ble_eq_true rfl))

/-! ## A take and its owner's writes -/

@[simp] theorem State.takenLong_zc (s : State) (h : ReqHead) (k : Byte) (d : List Byte) : (s.takenLong h k d).zc = s.zc := rfl
@[simp] theorem State.takenLong_siu (s : State) (h : ReqHead) (k : Byte) (d : List Byte) : (s.takenLong h k d).siu = s.siu := rfl
@[simp] theorem State.takenLong_de (s : State) (h : ReqHead) (k : Byte) (d : List Byte) : (s.takenLong h k d).de = s.de := rfl
@[simp] theorem State.takenLong_cmap (s : State) (h : ReqHead) (k : Byte) (d : List Byte) : (s.takenLong h k d).cmap = s.cmap := rfl
@[simp] theorem State.takenLong_lvu (s : State) (h : ReqHead) (k : Byte) (d : List Byte) : (s.takenLong h k d).lvu = s.lvu := rfl
@[simp] theorem State.takenLong_acc (s : State) (h : ReqHead) (k : Byte) (d : List Byte) : (s.takenLong h k d).acc = s.acc := rfl
@[simp] theorem State.takenLong_tlm (s : State) (h : ReqHead) (k : Byte) (d : List Byte) : (s.takenLong h k d).tlm = s.tlm := rfl
@[simp] theorem State.takenLong_fnc (s : State) (h : ReqHead) (k : Byte) (d : List Byte) : (s.takenLong h k d).fnc = s.fnc := rfl
@[simp] theorem State.takenLong_tun (s : State) (h : ReqHead) (k : Byte) (d : List Byte) : (s.takenLong h k d).tun = s.tun := rfl
@[simp] theorem State.takenLong_sdd (s : State) (h : ReqHead) (k : Byte) (d : List Byte) : (s.takenLong h k d).sdd = s.sdd := rfl
@[simp] theorem State.takenLong_kpp (s : State) (h : ReqHead) (k : Byte) (d : List Byte) : (s.takenLong h k d).kpp = s.kpp := rfl
@[simp] theorem State.takenLong_zone (s : State) (h : ReqHead) (k : Byte) (d : List Byte) (z : ZoneId) : (s.takenLong h k d).zone z = s.zone z := rfl
@[simp] theorem State.takenLong_src (s : State) (h : ReqHead) (k : Byte) (d : List Byte) (x : Src) : (s.takenLong h k d).src x = s.src x := rfl
@[simp] theorem State.takenLong_eng (s : State) (h : ReqHead) (k : Byte) (d : List Byte) (e : EngineId) : (s.takenLong h k d).eng e = s.eng e := rfl
@[simp] theorem State.takenLong_lev (s : State) (h : ReqHead) (k : Byte) (d : List Byte) (o : OutId) : (s.takenLong h k d).lev o = s.lev o := rfl
@[simp] theorem State.takenLong_chan (s : State) (h : ReqHead) (k : Byte) (d : List Byte) (c : ChanId) : (s.takenLong h k d).chan c = s.chan c := rfl
@[simp] theorem State.takenLong_pkg (s : State) (h : ReqHead) (k : Byte) (d : List Byte) (p : PkgId) : (s.takenLong h k d).pkg p = s.pkg p := rfl
@[simp] theorem State.takenLong_meas (s : State) (h : ReqHead) (k : Byte) (d : List Byte) (i : Sensor) : (s.takenLong h k d).meas i = s.meas i := rfl
@[simp] theorem State.takenLong_heat (s : State) (h : ReqHead) (k : Byte) (d : List Byte) (p : PkgId) : (s.takenLong h k d).heat p = s.heat p := rfl
@[simp] theorem State.takenLong_guard (s : State) (h : ReqHead) (k : Byte) (d : List Byte) (z : ZoneId) : (s.takenLong h k d).guard z = s.guard z := rfl
@[simp] theorem State.takenLong_fan (s : State) (h : ReqHead) (k : Byte) (d : List Byte) (f : FanId) : (s.takenLong h k d).fan f = s.fan f := rfl
@[simp] theorem State.takenLong_perm (s : State) (h : ReqHead) (k : Byte) (d : List Byte) (p : Port) : (s.takenLong h k d).perm p = s.perm p := rfl

theorem State.takenLong_setZone (s : State) (h : ReqHead) (k : Byte) (d : List Byte) (z : ZoneId) (r : ZoneRec) :
    (s.takenLong h k d).setZone z r = (s.setZone z r).takenLong h k d := rfl
theorem State.takenLong_setSrc (s : State) (h : ReqHead) (k : Byte) (d : List Byte) (x : Src) (r : SourceRec) :
    (s.takenLong h k d).setSrc x r = (s.setSrc x r).takenLong h k d := rfl
theorem State.takenLong_setEng (s : State) (h : ReqHead) (k : Byte) (d : List Byte) (e : EngineId) (r : EngineRec) :
    (s.takenLong h k d).setEng e r = (s.setEng e r).takenLong h k d := rfl
theorem State.takenLong_setLev (s : State) (h : ReqHead) (k : Byte) (d : List Byte) (o : OutId) (r : LevelRec) :
    (s.takenLong h k d).setLev o r = (s.setLev o r).takenLong h k d := rfl
theorem State.takenLong_setChan (s : State) (h : ReqHead) (k : Byte) (d : List Byte) (c : ChanId) (r : ChanRec) :
    (s.takenLong h k d).setChan c r = (s.setChan c r).takenLong h k d := rfl
theorem State.takenLong_setPkg (s : State) (h : ReqHead) (k : Byte) (d : List Byte) (p : PkgId) (r : PkgRec) :
    (s.takenLong h k d).setPkg p r = (s.setPkg p r).takenLong h k d := rfl
theorem State.takenLong_setGuard (s : State) (h : ReqHead) (k : Byte) (d : List Byte) (z : ZoneId) (r : ClipGuard) :
    (s.takenLong h k d).setGuard z r = (s.setGuard z r).takenLong h k d := rfl
theorem State.takenLong_setFan (s : State) (h : ReqHead) (k : Byte) (d : List Byte) (f : FanId) (r : FanRec) :
    (s.takenLong h k d).setFan f r = (s.setFan f r).takenLong h k d := rfl

/-- A notice posted while a request is taken: the take and the notice write different fields of a link. -/
theorem State.takenLong_post (s : State) (h : ReqHead) (k : Byte) (d : List Byte) (b : NoticeBody) (o : Origin) :
    (s.takenLong h k d).post b o = (s.post b o).takenLong h k d := by
  have offer : ∀ (r : LinkRec) (t : Tab 8 Slot) (w : Fin 8),
      ({ r with slots := t, take := w } : LinkRec).offer b o = { (r.offer b o) with slots := t, take := w } := by
    intro r t w
    unfold LinkRec.offer LinkRec.accept
    dsimp only
    split
    · split <;> rfl
    · rfl
  unfold State.takenLong State.post
  cases h.link
  · simp only [State.updLink_eq, State.setLink_setLink, State.setLink_link_self,
      State.setLink_link_ne _ .s .n _ (by decide), State.setLink_link_ne _ .n .s _ (by decide)]
    rw [offer (s.link .s), State.setLink_comm _ .n .s _ _ (by decide), State.setLink_setLink]
    simp only [LinkRec.offer_slots, LinkRec.offer_take]
  · simp only [State.updLink_eq, State.setLink_setLink, State.setLink_link_self,
      State.setLink_link_ne _ .s .n _ (by decide), State.setLink_link_ne _ .n .s _ (by decide)]
    rw [offer (s.link .n), State.setLink_comm _ .n .s _ _ (by decide), State.setLink_setLink]
    simp only [LinkRec.offer_slots, LinkRec.offer_take]

theorem State.takenLong_postZone (s : State) (h : ReqHead) (k : Byte) (d : List Byte) (z : ZoneId) (b : NoticeBody) (o : Origin) :
    (s.takenLong h k d).postZone z b o = (s.postZone z b o).takenLong h k d := by
  unfold State.postZone
  simp only [State.updZone_eq, State.takenLong_setZone, State.takenLong_zone, State.takenLong_post]

theorem State.takenLong_stamp (s : State) (h : ReqHead) (k : Byte) (d : List Byte) (z : ZoneId) (o : Origin) :
    (s.takenLong h k d).stamp z o = (s.stamp z o).takenLong h k d := rfl

end Sys2Proof.Machine
end

