-- ==== Sys2Proof/Laws/Held.lean ====
section
/-! SUPPORT. What an event leaves of LVU's earlier floor reports (R78, R91), and what a completion leaves of the slots that the held tickets name (R187). -/
namespace Sys2Proof.Machine

/-! ## Floor reports -/

theorem ChanId.get_table {α : Type} (f : ChanId → α) (c : ChanId) : Tab.get (n := 11) ⟨ChanId.all.map f, rfl⟩ c.idx = f c := by
  cases c <;> rfl

/-- After an event a channel's floor report stands only if it stood before and the channel has not begun to await one. -/
theorem forgetEarlier_report (s t : State) (c : ChanId) :
    (forgetEarlier s t).acc.floorReport.get c.idx = (t.acc.floorReport.get c.idx && (awaitsFloor s c || !awaitsFloor t c)) :=
  ChanId.get_table _ c

@[simp] theorem forgetEarlier_zc (s t : State) : (forgetEarlier s t).zc = t.zc := rfl
@[simp] theorem forgetEarlier_tlm (s t : State) : (forgetEarlier s t).tlm = t.tlm := rfl
@[simp] theorem forgetEarlier_tun (s t : State) : (forgetEarlier s t).tun = t.tun := rfl
@[simp] theorem forgetEarlier_lnk (s t : State) : (forgetEarlier s t).lnk = t.lnk := rfl
@[simp] theorem forgetEarlier_chan (s t : State) (c : ChanId) : (forgetEarlier s t).chan c = t.chan c := rfl
@[simp] theorem forgetEarlier_pkg (s t : State) (p : PkgId) : (forgetEarlier s t).pkg p = t.pkg p := rfl
@[simp] theorem forgetEarlier_lev (s t : State) (o : OutId) : (forgetEarlier s t).lev o = t.lev o := rfl
@[simp] theorem forgetEarlier_reassign (s t : State) : (forgetEarlier s t).acc.reassign = t.acc.reassign := rfl
@[simp] theorem forgetEarlier_check (s t : State) : (forgetEarlier s t).acc.check = t.acc.check := rfl

/-- What a zone's leaving PLAYING does to the report of a channel (R91). -/
theorem awaits_leaving (s : State) (z : ZoneId) (st : ZoneState) (hp : (s.zone z).state = .playing) (hs : st ≠ .playing) (c : ChanId) :
    (awaitsFloor s c || !awaitsFloor (s.updZone z (fun r => { r with state := st })) c) = !fades s z c := by
  unfold awaitsFloor fades chanPlays
  simp only [State.updZone_eq, State.setZone_chan, State.setZone_pkg]
  cases ha : (s.chan c).assign with
  | none => cases (s.chan c).state <;> cases (s.pkg c.pkg).power <;> rfl
  | some a =>
    dsimp only
    by_cases e : a.zone = z
    · subst e
      have was : ((s.zone a.zone).state == .playing) = true := by simp [hp]
      have will : (st == .playing) = false := by simp [hs]
      rw [State.setZone_zone_self, was, will, Option.map_some, BEq.rfl]
      cases (s.chan c).state <;> cases (s.pkg c.pkg).power <;> rfl
    · rw [State.setZone_zone_ne _ _ _ _ e]
      have : (Option.map Assign.zone (some a) == some z) = false := by simp [e]
      rw [this, Bool.or_not_self]
      rfl

/-- **A zone that leaves PLAYING**: its state, and the reports that no longer speak for it and for its channels (R62, R78, R91). -/
theorem setZoneState_leaves (s : State) (z : ZoneId) (st : ZoneState) (hp : (s.zone z).state = .playing) (hs : st ≠ .playing) :
    setZoneState z st s =
      (let t := (s.updZone z (fun r => { r with state := st })).fading s z
      if z = .main then clearFilters t else t) := by
  have e : (forgetEarlier s (s.updZone z (fun r => { r with state := st }))).acc =
      ((s.updZone z (fun r => { r with state := st })).fading s z).acc := by
    unfold forgetEarlier State.fading
    simp only [awaits_leaving s z st hp hs]
  unfold setZoneState
  simp only [hs, not_false_eq_true, and_true, ne_eq]
  have : ({ forgetEarlier s (s.updZone z (fun r => { r with state := st })) with
      zc := { (forgetEarlier s (s.updZone z (fun r => { r with state := st }))).zc with
        floorReport := (forgetEarlier s (s.updZone z (fun r => { r with state := st }))).zc.floorReport.put z false } } : State) =
      (s.updZone z (fun r => { r with state := st })).fading s z := by
    unfold State.fading
    unfold forgetEarlier at e ⊢
    unfold State.fading at e
    simp only at e ⊢
    rw [e]
  rw [this]

/-! ## Held slots (R187) -/

/-- Completing a ticket writes no slot but its own. -/
theorem complete_slot (s : State) (k : Ticket) (st : Status) (page : Byte) (data : List Byte) (l : Link) (i : Fin 8)
    (h : (l, i) ∉ k.places) : ((s.complete k st page data).link l).slots.get i = (s.link l).slots.get i := by
  have rest : ∀ (n : Nat) (r : LinkRec) (j : Fin 8), (∀ m, 1 ≤ m → m ≤ n → slotAfter j m ≠ i) →
      (r.finishRest .ok j n).slots.get i = r.slots.get i := by
    intro n
    induction n with
    | zero => exact fun _ _ _ => rfl
    | succ n ih =>
      intro r j hj
      unfold LinkRec.finishRest
      dsimp only
      rw [ih _ _ (fun m h1 hm => by
        rw [slotAfter_one, slotAfter_add]
        exact hj (1 + m) (by omega) (by omega))]
      rw [slotAfter_one, Tab.get_set_ne]
      exact fun e => hj 1 (by omega) (by omega) e.symm
  unfold State.complete
  split
  · by_cases e : l = k.link
    · subst e
      have away : ∀ m, m < max 1 k.slots → slotAfter k.slot m ≠ i := fun m hm e => h (by
        unfold Ticket.places slotsFrom
        simp only [List.map_map, List.mem_map, List.mem_range]
        exact ⟨m, hm, by simp [e]⟩)
      rw [State.updLink_eq, State.setLink_link_self]
      unfold LinkRec.complete LinkRec.completeAs
      have first : i ≠ k.slot := fun e => away 0 (by omega) (by rw [slotAfter_zero, e])
      split
      · rw [LinkRec.accept_slots, rest _ _ _ (fun m h1 hm => away m (by omega)), Tab.get_set_ne _ _ _ _ first]
      · rw [rest _ _ _ (fun m h1 hm => away m (by omega)), Tab.get_set_ne _ _ _ _ first]
    · rw [State.updLink_eq, State.setLink_link_ne _ _ _ _ e]
  · rfl

/-- Fewer tickets name fewer slots. -/
theorem places_sublist {a b : List Ticket} (sub : a.Sublist b) : (a.flatMap Ticket.places).Sublist (b.flatMap Ticket.places) := by
  induction sub with
  | slnil => exact List.Sublist.refl _
  | cons k _ ih => exact ih.trans (List.sublist_append_right _ _)
  | cons_cons k _ ih => exact (List.Sublist.refl _).append ih

/-- The invariant holds of a state whose held tickets are among another's and whose slots at their places have the same phase. -/
theorem SlotsHeld.of_sublist {s t : State} (h : SlotsHeld s) (sub : (heldTickets t).Sublist (heldTickets s))
    (same : ∀ x, x ∈ (heldTickets t).flatMap Ticket.places →
      ((t.link x.1).slots.get x.2).phase = ((s.link x.1).slots.get x.2).phase) : SlotsHeld t := by
  have places := places_sublist sub
  exact ⟨h.1.sublist places, fun x hx => (same x hx).trans (h.2 x (places.subset hx))⟩

end Sys2Proof.Machine
end

