-- ==== Sys2Proof/Laws/Kept.lean ====
section
/-! SUPPORT. What no event and no cascade of a request changes: the settings of the part, its derates and its clip guards.

`State.keep` gathers what is kept.
One lemma `<operation>_keep` per operation says that the operation keeps it, so that a later proof never unfolds the operation; `<operation>_hold` says the same without the channel assignment and the layout (`unassigned`), for the operations that may swap a reassignment.
-/
namespace Sys2Proof.Machine

set_option linter.unusedSimpArgs false

/-- The settings, the derates and the clip guards. -/
def State.keep (s : State) : Settings × List Int × List Int :=
  (s.settings, s.tlm.thermal.entries.map Thermal.derate, s.tlm.guards.entries.map ClipGuard.guard)

/-- Settings without the channels' assignment and without the main layout. -/
def Settings.unassigned (m : Settings) : Settings :=
  { m with channels := m.channels.map (fun p => (none, p.2)), mapper := { m.mapper with layout := Mapper.reset.layout } }

/-- What is kept, without the channels' assignment and the layout: what a swap of a reassignment keeps as well. -/
def unassigned (k : Settings × List Int × List Int) : Settings × List Int × List Int := (k.1.unassigned, k.2)

theorem hold_of_keep {s t : State} (h : t.keep = s.keep) : unassigned t.keep = unassigned s.keep := by rw [h]

theorem settings_of_keep {s t : State} (h : t.keep = s.keep) : t.settings = s.settings := congrArg Prod.fst h

theorem Tab.get_map_eq {n : Nat} {α β : Type} {t u : Tab n α} {f : α → β} (h : t.entries.map f = u.entries.map f) (i : Fin n) :
    f (t.get i) = f (u.get i) := by
  have e : t.map f = u.map f := by
    have : (t.map f).entries = (u.map f).entries := h
    cases ht : t.map f
    cases hu : u.map f
    simp_all
  have := congrArg (fun x => x.get i) e
  simpa using this

/-! ## What follows for one record -/

theorem hold_derate {s t : State} (h : unassigned t.keep = unassigned s.keep) (p : PkgId) : (t.heat p).derate = (s.heat p).derate :=
  Tab.get_map_eq (congrArg (fun x => x.2.1) h) p.idx

theorem hold_guard {s t : State} (h : unassigned t.keep = unassigned s.keep) (z : ZoneId) : (t.guard z).guard = (s.guard z).guard :=
  Tab.get_map_eq (congrArg (fun x => x.2.2) h) z.idx

theorem hold_zone {s t : State} (h : unassigned t.keep = unassigned s.keep) (z : ZoneId) : (t.zone z).settings = (s.zone z).settings :=
  Tab.get_map_eq (congrArg (fun x => x.1.zones) h) z.idx

theorem hold_limits {s t : State} (h : unassigned t.keep = unassigned s.keep) : t.tlm.limits = s.tlm.limits := congrArg (fun x => x.1.limits) h

theorem hold_lock {s t : State} (h : unassigned t.keep = unassigned s.keep) : t.tlm.lock = s.tlm.lock := congrArg (fun x => x.1.lock) h

theorem hold_clipLimit {s t : State} (h : unassigned t.keep = unassigned s.keep) (z : ZoneId) : (t.guard z).limit = (s.guard z).limit :=
  Tab.get_map_eq (congrArg (fun x => x.1.clipLimits) h) z.idx

theorem hold_fan {s t : State} (h : unassigned t.keep = unassigned s.keep) (f : FanId) : (t.fan f).set = (s.fan f).set :=
  Tab.get_map_eq (congrArg (fun x => x.1.fans) h) f.idx

/-! ## One record replaced -/

theorem keep_setZone (s : State) (z : ZoneId) (r : ZoneRec) (h : r.settings = (s.zone z).settings) :
    (s.setZone z r).keep = s.keep := by
  simp [State.keep, State.settings, Tab.map_entries_set ZoneRec.settings s.zc.zones z.idx r h]

theorem keep_setSrc (s : State) (x : Src) (r : SourceRec) (h : r.trim = (s.src x).trim) : (s.setSrc x r).keep = s.keep := by
  simp [State.keep, State.settings, Tab.map_entries_set SourceRec.trim s.siu.sources x.idx r h]

@[simp] theorem keep_setEng (s : State) (e : EngineId) (r : EngineRec) : (s.setEng e r).keep = s.keep := rfl

@[simp] theorem keep_setLev (s : State) (o : OutId) (r : LevelRec) : (s.setLev o r).keep = s.keep := rfl

theorem keep_setChan (s : State) (c : ChanId) (r : ChanRec) (h : r.assign = (s.chan c).assign) (g : r.trim = (s.chan c).trim) :
    (s.setChan c r).keep = s.keep := by
  have := Tab.map_entries_set (fun r : ChanRec => (r.assign, r.trim)) s.acc.channels c.idx r (by rw [h, g]; rfl)
  simp [State.keep, State.settings, this]

@[simp] theorem keep_setPkg (s : State) (p : PkgId) (r : PkgRec) : (s.setPkg p r).keep = s.keep := rfl

@[simp] theorem keep_setMeas (s : State) (i : Sensor) (r : Meas) : (s.setMeas i r).keep = s.keep := rfl

theorem keep_setHeat (s : State) (p : PkgId) (r : Thermal) (h : r.derate = (s.heat p).derate) :
    (s.setHeat p r).keep = s.keep := by
  simp [State.keep, State.settings, Tab.map_entries_set Thermal.derate s.tlm.thermal p.idx r h]

theorem keep_setGuard (s : State) (z : ZoneId) (r : ClipGuard) (h : r.limit = (s.guard z).limit)
    (g : r.guard = (s.guard z).guard) : (s.setGuard z r).keep = s.keep := by
  simp [State.keep, State.settings, Tab.map_entries_set ClipGuard.limit s.tlm.guards z.idx r h,
    Tab.map_entries_set ClipGuard.guard s.tlm.guards z.idx r g]

theorem keep_setFan (s : State) (f : FanId) (r : FanRec) (h : r.set = (s.fan f).set) : (s.setFan f r).keep = s.keep := by
  simp [State.keep, State.settings, Tab.map_entries_set FanRec.set s.fnc.fans f.idx r h]

theorem keep_setLink (s : State) (l : Link) (r : LinkRec) (h : r.mask = (s.link l).mask)
    (g : r.attention = (s.link l).attention) : (s.setLink l r).keep = s.keep := by
  have := Tab.map_entries_set (fun r : LinkRec => (r.mask, r.attention)) s.lnk.links l.idx r (by rw [h, g]; rfl)
  simp [State.keep, State.settings, this]

theorem keep_setTun (s : State) (r : TunerRec) (h : (r.step, r.raster) = (s.tun.step, s.tun.raster))
    (g : (r.margin, r.afMargin) = (s.tun.margin, s.tun.afMargin)) (k : r.presets = s.tun.presets) :
    (s.setTun r).keep = s.keep := by
  simp only [Prod.mk.injEq] at h g
  simp [State.keep, State.settings, State.setTun, h, g, k]

theorem keep_setKpp (s : State) (k : Keypads) (h : k.binding = s.kpp.binding) (g : k.keymap = s.kpp.keymap) :
    (s.setKpp k).keep = s.keep := by
  simp [State.keep, State.settings, State.setKpp, h, g]

@[simp] theorem keep_setAnn (s : State) (a : Announcement) : (s.setAnn a).keep = s.keep := rfl

@[simp] theorem keep_setData (s : State) (d : StationData) : (s.setData d).keep = s.keep := rfl

/-- The same, field by field, for `simp`. -/
theorem keep_zone (s : State) (z : ZoneId) (r : ZoneRec) (h1 : r.volume = (s.zone z).volume) (h2 : r.mute = (s.zone z).mute)
    (h3 : r.ceiling = (s.zone z).ceiling) (h4 : r.ramp = (s.zone z).ramp) (h5 : r.snapOnMute = (s.zone z).snapOnMute)
    (h6 : r.follow = (s.zone z).follow) (h7 : r.minLevel = (s.zone z).minLevel) (h8 : r.ring = (s.zone z).ring) :
    (s.setZone z r).keep = s.keep := keep_setZone s z r (by simp [ZoneRec.settings, h1, h2, h3, h4, h5, h6, h7, h8])

/-! ## Doing something for each of a list, or by a choice -/

@[simp] theorem keep_ite (c : Prop) [Decidable c] (a b : State) :
    (if c then a else b).keep = if c then a.keep else b.keep := apply_ite ..


theorem keep_foldl {α : Type} (f : State → α → State) (l : List α) (s : State) (h : ∀ t a, (f t a).keep = t.keep) :
    (l.foldl f s).keep = s.keep := by
  induction l generalizing s with
  | nil => rfl
  | cons a l ih => rw [List.foldl_cons, ih, h]

theorem hold_foldl {α : Type} (f : State → α → State) (l : List α) (s : State) (h : ∀ t a, unassigned (f t a).keep = unassigned t.keep) :
    unassigned (l.foldl f s).keep = unassigned s.keep := by
  induction l generalizing s with
  | nil => rfl
  | cons a l ih => rw [List.foldl_cons, ih, h]

theorem keep_pick (a b : State) (s : State) (ha : a.keep = s.keep) (hb : b.keep = s.keep) : (pickOne a b).keep = s.keep := by
  unfold pickOne
  split
  · exact ha
  · split
    · exact ha
    · exact hb

theorem hold_pick (a b : State) (s : State) (ha : unassigned a.keep = unassigned s.keep) (hb : unassigned b.keep = unassigned s.keep) :
    unassigned (pickOne a b).keep = unassigned s.keep := by
  unfold pickOne
  split
  · exact ha
  · split
    · exact ha
    · exact hb

theorem keep_either (f g : State → State) (s : State) (hf : ∀ t, (f t).keep = t.keep) (hg : ∀ t, (g t).keep = t.keep) :
    (inEitherOrder f g s).keep = s.keep :=
  keep_pick _ _ s (by rw [hg, hf]) (by rw [hf, hg])

theorem keep_any (f g h : State → State) (s : State) (hf : ∀ t, (f t).keep = t.keep) (hg : ∀ t, (g t).keep = t.keep)
    (hh : ∀ t, (h t).keep = t.keep) : (inAnyOrder f g h s).keep = s.keep := by
  unfold inAnyOrder
  repeat' apply keep_pick
  all_goals simp [hf, hg, hh]

theorem keep_eachZone (s : State) (f : ZoneId → State → State) (h : ∀ z t, (f z t).keep = t.keep) :
    (s.eachZone f).keep = s.keep := keep_foldl _ _ _ (fun t z => h z t)

theorem keep_eachChan (s : State) (f : ChanId → State → State) (h : ∀ c t, (f c t).keep = t.keep) :
    (s.eachChan f).keep = s.keep := keep_foldl _ _ _ (fun t c => h c t)

theorem keep_eachPkg (s : State) (f : PkgId → State → State) (h : ∀ p t, (f p t).keep = t.keep) :
    (s.eachPkg f).keep = s.keep := keep_foldl _ _ _ (fun t p => h p t)

theorem hold_eachPkg (s : State) (f : PkgId → State → State) (h : ∀ p t, unassigned (f p t).keep = unassigned t.keep) :
    unassigned (s.eachPkg f).keep = unassigned s.keep := hold_foldl _ _ _ (fun t p => h p t)

theorem keep_eachOut (s : State) (f : OutId → State → State) (h : ∀ o t, (f o t).keep = t.keep) :
    (s.eachOut f).keep = s.keep := keep_foldl _ _ _ (fun t o => h o t)

/-! ## Notices and completions -/

@[simp] theorem post_keep (s : State) (b : NoticeBody) (o : Origin) : (s.post b o).keep = s.keep := by
  rw [State.post_eq, keep_setLink, keep_setLink] <;> simp

@[simp] theorem postZone_keep (s : State) (z : ZoneId) (b : NoticeBody) (o : Origin) : (s.postZone z b o).keep = s.keep := by
  unfold State.postZone
  rw [post_keep, State.updZone_eq, keep_setZone]
  rfl

@[simp] theorem stamp_keep (s : State) (z : ZoneId) (o : Origin) : (s.stamp z o).keep = s.keep := by
  unfold State.stamp
  rw [State.updZone_eq, keep_setZone]
  rfl

@[simp] theorem complete_keep (s : State) (t : Ticket) (st : Status) (p : Byte) (d : List Byte) :
    (s.complete t st p d).keep = s.keep := by
  rw [State.complete_eq]
  split
  · rw [keep_setLink] <;> simp [LinkRec.complete]
  · rfl

@[simp] theorem completeOpt_keep (s : State) (t : Option Ticket) (st : Status) (d : List Byte) :
    (s.completeOpt t st d).keep = s.keep := by
  cases t <;> simp [State.completeOpt]

@[simp] theorem setFlag_keep (f : FlagId) (s : State) : (setFlag f s).keep = s.keep := by
  unfold setFlag
  split
  · rfl
  · rw [post_keep]
    rfl

@[simp] theorem clearFlag_keep (mask : FlagSet) (f : FlagId) (s : State) : (clearFlag mask f s).keep = s.keep := by
  unfold clearFlag
  split <;> rfl

@[simp] theorem setLevel_keep (o : OutId) (a : Int) (s : State) : (setLevel o a s).keep = s.keep := by
  simp [setLevel, keep_zone, keep_setSrc, keep_setChan, keep_setHeat, keep_setGuard, keep_setFan, keep_setLink, keep_setTun, keep_setKpp, ZoneRec.settings]

@[simp] theorem refreshGain_keep (o : OutId) (s : State) : (refreshGain o s).keep = s.keep := by
  simp [refreshGain, keep_zone, keep_setSrc, keep_setChan, keep_setHeat, keep_setGuard, keep_setFan, keep_setLink, keep_setTun, keep_setKpp, ZoneRec.settings]

@[simp] theorem snap_keep (o : OutId) (s : State) : (snap o s).keep = s.keep := by
  simp [snap, keep_zone, keep_setSrc, keep_setChan, keep_setHeat, keep_setGuard, keep_setFan, keep_setLink, keep_setTun, keep_setKpp, ZoneRec.settings]

@[simp] theorem snapZone_keep (z : ZoneId) (s : State) : (snapZone z s).keep = s.keep := by
  apply keep_eachOut
  intro o t
  split <;> simp

@[simp] theorem boundCut_keep (o : OutId) (s : State) : (boundCut o s).keep = s.keep := by
  unfold boundCut
  repeat' split
  all_goals simp [keep_zone, keep_setSrc, keep_setChan, keep_setHeat, keep_setGuard, keep_setFan, keep_setLink, keep_setTun, keep_setKpp, ZoneRec.settings]

@[simp] theorem boundCuts_keep (p : OutId → Bool) (s : State) : (boundCuts p s).keep = s.keep := by
  apply keep_eachOut
  intro o t
  split <;> simp

@[simp] theorem rampOut_keep (o : OutId) (s : State) : (rampOut o s).keep = s.keep := by
  simp [rampOut, keep_zone, keep_setSrc, keep_setChan, keep_setHeat, keep_setGuard, keep_setFan, keep_setLink, keep_setTun, keep_setKpp, ZoneRec.settings]

@[simp] theorem reportFloor_keep (s : State) : (reportFloor s).keep = s.keep := by
  rfl

@[simp] theorem setChanState_keep (c : ChanId) (st : ChanState) (cause : Option FaultCause) (s : State) : (setChanState c st cause s).keep = s.keep := by
  simp [setChanState, keep_zone, keep_setSrc, keep_setChan, keep_setHeat, keep_setGuard, keep_setFan, keep_setLink, keep_setTun, keep_setKpp, ZoneRec.settings]

@[simp] theorem startTestStep_keep (p : PkgId) (s : State) : (startTestStep p s).keep = s.keep := by
  unfold startTestStep
  split
  · split <;> rfl
  · rfl

@[simp] theorem pkgOn_keep (p : PkgId) (s : State) : (pkgOn p s).keep = s.keep := by
  simp [pkgOn, keep_zone, keep_setSrc, keep_setChan, keep_setHeat, keep_setGuard, keep_setFan, keep_setLink, keep_setTun, keep_setKpp, keep_eachZone, keep_eachChan, keep_eachPkg, keep_eachOut, keep_foldl, ZoneRec.settings, ZoneRec.idle, SourceRec.silent, SourceRec.seek, SourceRec.halt, SourceRec.lockPcm, SourceRec.unlockPcm, SourceRec.achieve, SourceRec.fail, SourceRec.retry, SourceRec.setPcm, SourceRec.takeFrame, SourceRec.setCoded, SourceRec.setBroken, TunerRec.opEnded, TunerRec.measure]

@[simp] theorem pkgStart_keep (p : PkgId) (s : State) : (pkgStart p s).keep = s.keep := by
  unfold pkgStart
  repeat' split
  all_goals simp [keep_zone, keep_setSrc, keep_setChan, keep_setHeat, keep_setGuard, keep_setFan, keep_setLink, keep_setTun, keep_setKpp, ZoneRec.settings]

@[simp] theorem pkgOff_keep (p : PkgId) (s : State) : (pkgOff p s).keep = s.keep := by
  simp [pkgOff, keep_zone, keep_setSrc, keep_setChan, keep_setHeat, keep_setGuard, keep_setFan, keep_setLink, keep_setTun, keep_setKpp, ZoneRec.settings]

@[simp] theorem settlePkg_keep (p : PkgId) (s : State) : (settlePkg p s).keep = s.keep := by
  unfold settlePkg
  repeat' split
  all_goals simp [keep_zone, keep_setSrc, keep_setChan, keep_setHeat, keep_setGuard, keep_setFan, keep_setLink, keep_setTun, keep_setKpp, ZoneRec.settings]

@[simp] theorem evalChan_keep (c : ChanId) (s : State) : (evalChan c s).keep = s.keep := by
  unfold evalChan
  dsimp only
  repeat' split
  all_goals simp [keep_zone, keep_setSrc, keep_setChan, keep_setHeat, keep_setGuard, keep_setFan, keep_setLink, keep_setTun, keep_setKpp, ZoneRec.settings]

@[simp] theorem enterIdle_keep (c : ChanId) (s : State) : (enterIdle c s).keep = s.keep := by
  simp [enterIdle, keep_zone, keep_setSrc, keep_setChan, keep_setHeat, keep_setGuard, keep_setFan, keep_setLink, keep_setTun, keep_setKpp, ZoneRec.settings]

@[simp] theorem faultChan_keep (c : ChanId) (st : ChanState) (cause : Option FaultCause) (s : State) : (faultChan c st cause s).keep = s.keep := by
  simp [faultChan, keep_zone, keep_setSrc, keep_setChan, keep_setHeat, keep_setGuard, keep_setFan, keep_setLink, keep_setTun, keep_setKpp, ZoneRec.settings]

@[simp] theorem clearClips_keep (o : OutId) (s : State) : (clearClips o s).keep = s.keep := by
  simp [clearClips, keep_zone, keep_setSrc, keep_setChan, keep_setHeat, keep_setGuard, keep_setFan, keep_setLink, keep_setTun, keep_setKpp, ZoneRec.settings]

/-- Storing a reassignment in flight, or none. -/
theorem keep_reassign (t : State) (x : Option Reassign) : ({ t with acc := { t.acc with reassign := x } } : State).keep = t.keep := rfl

theorem hold_setChan (s : State) (c : ChanId) (r : ChanRec) (h : r.trim = (s.chan c).trim) :
    unassigned (s.setChan c r).keep = unassigned s.keep := by
  have := Tab.map_entries_set (fun r : ChanRec => ((none : Option Assign), r.trim)) s.acc.channels c.idx r (by rw [h]; rfl)
  simp only [unassigned, State.keep, State.settings, Settings.unassigned, State.setChan, List.map_map, Function.comp_def]
  rw [this]

@[simp] theorem takeAssign_hold (a : Tab 11 (Option Assign)) (c : ChanId) (s : State) :
    unassigned (takeAssign a c s).keep = unassigned s.keep := by
  unfold takeAssign
  split
  · unfold clearClips
    rw [keep_setLev, State.updChan_eq]
    exact hold_setChan s c _ rfl
  · rfl

@[simp] theorem endDrain_keep (c : ChanId) (s : State) : (endDrain c s).keep = s.keep := by
  unfold endDrain
  repeat' split
  all_goals simp [keep_zone, keep_setSrc, keep_setChan, keep_setHeat, keep_setGuard, keep_setFan, keep_setLink, keep_setTun, keep_setKpp, ZoneRec.settings]

@[simp] theorem endChanging_keep (c : ChanId) (s : State) : (endChanging c s).keep = s.keep := by
  unfold endChanging
  repeat' split
  all_goals simp [keep_zone, keep_setSrc, keep_setChan, keep_setHeat, keep_setGuard, keep_setFan, keep_setLink, keep_setTun, keep_setKpp, ZoneRec.settings]

theorem recomputeLayout_hold (s : State) : unassigned (recomputeLayout s).keep = unassigned s.keep := rfl

@[simp] theorem swap_hold (s : State) : unassigned (swap s).keep = unassigned s.keep := by
  unfold swap
  split
  · rfl
  · next r _ =>
    dsimp only
    rw [complete_keep, keep_reassign, keep_eachChan _ _ (fun c u => endChanging_keep c u),
      keep_eachChan _ _ (fun c u => endDrain_keep c u), recomputeLayout_hold]
    exact hold_foldl _ _ _ (fun t c => takeAssign_hold r.result c t)

@[simp] theorem trySwap_hold (s : State) : unassigned (trySwap s).keep = unassigned s.keep := by
  unfold trySwap
  repeat' split
  all_goals simp [keep_zone, keep_setSrc, keep_setChan, keep_setHeat, keep_setGuard, keep_setFan, keep_setLink, keep_setTun, keep_setKpp, ZoneRec.settings]

@[simp] theorem swapAfterFault_hold (left : Bool) (s : State) : unassigned (swapAfterFault left s).keep = unassigned s.keep := by
  unfold swapAfterFault
  split
  · exact trySwap_hold s
  · rfl

@[simp] theorem endCheck_keep (count : Nat) (v : Verdict) (s : State) : (endCheck count v s).keep = s.keep := by
  unfold endCheck
  split
  · rfl
  · next k _ =>
    dsimp only
    rw [post_keep, complete_keep, enterIdle_keep]
    exact keep_setChan s k.channel _ rfl rfl

@[simp] theorem dropCheck_keep (st : Status) (s : State) : (dropCheck st s).keep = s.keep := by
  unfold dropCheck
  split
  · rfl
  · rw [complete_keep]
    rfl

@[simp] theorem holdChan_keep (h : Hold) (c : ChanId) (s : State) : (holdChan h c s).keep = s.keep := by
  unfold holdChan
  repeat' split
  all_goals simp [keep_zone, keep_setSrc, keep_setChan, keep_setHeat, keep_setGuard, keep_setFan, keep_setLink, keep_setTun, keep_setKpp, ZoneRec.settings]

@[simp] theorem placeHold_hold (h : Hold) (p : PkgId) (s : State) : unassigned (placeHold h p s).keep = unassigned s.keep := by
  unfold placeHold
  dsimp only
  repeat' split
  all_goals simp [keep_zone, keep_setSrc, keep_setChan, keep_setHeat, keep_setGuard, keep_setFan, keep_setLink, keep_setTun, keep_setKpp, keep_eachZone, keep_eachChan, keep_eachPkg, keep_eachOut, keep_foldl, ZoneRec.settings, ZoneRec.idle, SourceRec.silent, SourceRec.seek, SourceRec.halt, SourceRec.lockPcm, SourceRec.unlockPcm, SourceRec.achieve, SourceRec.fail, SourceRec.retry, SourceRec.setPcm, SourceRec.takeFrame, SourceRec.setCoded, SourceRec.setBroken, TunerRec.opEnded, TunerRec.measure]

@[simp] theorem releaseChan_keep (c : ChanId) (s : State) : (releaseChan c s).keep = s.keep := by
  unfold releaseChan
  dsimp only
  repeat' split
  all_goals simp [keep_zone, keep_setSrc, keep_setChan, keep_setHeat, keep_setGuard, keep_setFan, keep_setLink, keep_setTun, keep_setKpp, ZoneRec.settings]

@[simp] theorem removeHold_keep (h : Hold) (p : PkgId) (s : State) : (removeHold h p s).keep = s.keep := by
  simp [removeHold, keep_zone, keep_setSrc, keep_setChan, keep_setHeat, keep_setGuard, keep_setFan, keep_setLink, keep_setTun, keep_setKpp, keep_eachZone, keep_eachChan, keep_eachPkg, keep_eachOut, keep_foldl, ZoneRec.settings, ZoneRec.idle, SourceRec.silent, SourceRec.seek, SourceRec.halt, SourceRec.lockPcm, SourceRec.unlockPcm, SourceRec.achieve, SourceRec.fail, SourceRec.retry, SourceRec.setPcm, SourceRec.takeFrame, SourceRec.setCoded, SourceRec.setBroken, TunerRec.opEnded, TunerRec.measure]

@[simp] theorem ampPlaying_keep (z : ZoneId) (s : State) : (ampPlaying z s).keep = s.keep := by
  apply keep_eachChan
  intro c t
  repeat' split
  all_goals simp

@[simp] theorem ampStandby_keep (z : ZoneId) (s : State) : (ampStandby z s).keep = s.keep := by
  apply keep_eachChan
  intro c t
  repeat' split
  all_goals simp

@[simp] theorem countMiss_keep (p : PkgId) (s : State) : (countMiss p s).keep = s.keep := by
  simp [countMiss, keep_zone, keep_setSrc, keep_setChan, keep_setHeat, keep_setGuard, keep_setFan, keep_setLink, keep_setTun, keep_setKpp, ZoneRec.settings]

@[simp] theorem loseTesting_keep (p : PkgId) (s : State) : (loseTesting p s).keep = s.keep := by
  unfold loseTesting
  repeat' split
  all_goals simp [keep_zone, keep_setSrc, keep_setChan, keep_setHeat, keep_setGuard, keep_setFan, keep_setLink, keep_setTun, keep_setKpp, ZoneRec.settings]

@[simp] theorem forgetEarlier_keep (s t : State) : (forgetEarlier s t).keep = t.keep := rfl

@[simp] theorem missWindow_keep (p : PkgId) (s : State) : (missWindow p s).keep = s.keep := by
  unfold missWindow
  dsimp only
  repeat' split
  all_goals simp [keep_zone, keep_setSrc, keep_setChan, keep_setHeat, keep_setGuard, keep_setFan, keep_setLink, keep_setTun, keep_setKpp, ZoneRec.settings]

@[simp] theorem loseReady_keep (p : PkgId) (s : State) : (loseReady p s).keep = s.keep := by
  simp [loseReady, keep_zone, keep_setSrc, keep_setChan, keep_setHeat, keep_setGuard, keep_setFan, keep_setLink, keep_setTun, keep_setKpp, keep_eachZone, keep_eachChan, keep_eachPkg, keep_eachOut, keep_foldl, ZoneRec.settings, ZoneRec.idle, SourceRec.silent, SourceRec.seek, SourceRec.halt, SourceRec.lockPcm, SourceRec.unlockPcm, SourceRec.achieve, SourceRec.fail, SourceRec.retry, SourceRec.setPcm, SourceRec.takeFrame, SourceRec.setCoded, SourceRec.setBroken, TunerRec.opEnded, TunerRec.measure]

@[simp] theorem overcurrentFault_hold (c : ChanId) (s : State) : unassigned (overcurrentFault c s).keep = unassigned s.keep := by
  simp [overcurrentFault, keep_zone, keep_setSrc, keep_setChan, keep_setHeat, keep_setGuard, keep_setFan, keep_setLink, keep_setTun, keep_setKpp, ZoneRec.settings]

@[simp] theorem overcurrentTesting_keep (c : ChanId) (elapsed : Nat) (s : State) : (overcurrentTesting c elapsed s).keep = s.keep := by
  unfold overcurrentTesting
  dsimp only
  repeat' split
  all_goals simp [keep_zone, keep_setSrc, keep_setChan, keep_setHeat, keep_setGuard, keep_setFan, keep_setLink, keep_setTun, keep_setKpp, ZoneRec.settings]

@[simp] theorem clearChan_keep (c : ChanId) (s : State) : (clearChan c s).keep = s.keep := by
  unfold clearChan
  repeat' split
  all_goals simp [keep_zone, keep_setSrc, keep_setChan, keep_setHeat, keep_setGuard, keep_setFan, keep_setLink, keep_setTun, keep_setKpp, ZoneRec.settings]

@[simp] theorem clearPkg_keep (p : PkgId) (s : State) : (clearPkg p s).keep = s.keep := by
  unfold clearPkg
  dsimp only
  repeat' split
  all_goals simp [keep_zone, keep_setSrc, keep_setChan, keep_setHeat, keep_setGuard, keep_setFan, keep_setLink, keep_setTun, keep_setKpp, keep_eachZone, keep_eachChan, keep_eachPkg, keep_eachOut, keep_foldl, ZoneRec.settings, ZoneRec.idle, SourceRec.silent, SourceRec.seek, SourceRec.halt, SourceRec.lockPcm, SourceRec.unlockPcm, SourceRec.achieve, SourceRec.fail, SourceRec.retry, SourceRec.setPcm, SourceRec.takeFrame, SourceRec.setCoded, SourceRec.setBroken, TunerRec.opEnded, TunerRec.measure]

@[simp] theorem takeSample_keep (x : SensorSamples) (i : Sensor) (s : State) : (takeSample x i s).keep = s.keep := by
  unfold takeSample
  dsimp only
  repeat' split
  all_goals simp [keep_zone, keep_setSrc, keep_setChan, keep_setHeat, keep_setGuard, keep_setFan, keep_setLink, keep_setTun, keep_setKpp, ZoneRec.settings]

theorem keep_samplingTimer (t : State) (n : Nat) : ({ t with tlm := { t.tlm with samplingTimer := n } } : State).keep = t.keep := rfl

@[simp] theorem sampleAll_keep (x : SensorSamples) (s : State) : (sampleAll x s).keep = s.keep := by
  unfold sampleAll
  rw [keep_samplingTimer]
  exact keep_foldl _ _ _ (fun t i => takeSample_keep x i t)

@[simp] theorem judgeHeatsink_keep (s : State) : (judgeHeatsink s).keep = s.keep := by
  rfl

@[simp] theorem setHeatState_keep (p : PkgId) (h : Heat) (s : State) : (setHeatState p h s).keep = s.keep := by
  simp [setHeatState, keep_zone, keep_setSrc, keep_setChan, keep_setHeat, keep_setGuard, keep_setFan, keep_setLink, keep_setTun, keep_setKpp, ZoneRec.settings]

@[simp] theorem judgePkg_hold (p : PkgId) (s : State) : unassigned (judgePkg p s).keep = unassigned s.keep := by
  unfold judgePkg
  dsimp only
  repeat' split
  all_goals simp [keep_zone, keep_setSrc, keep_setChan, keep_setHeat, keep_setGuard, keep_setFan, keep_setLink, keep_setTun, keep_setKpp, ZoneRec.settings]

@[simp] theorem judgeForFan_hold (before after : SensorSet) (s : State) : unassigned (judgeForFan before after s).keep = unassigned s.keep := by
  apply hold_eachPkg
  intro p t
  split
  · exact judgePkg_hold p t
  · rfl

@[simp] theorem judgeRail_hold (s : State) : unassigned (judgeRail s).keep = unassigned s.keep := by
  unfold judgeRail
  dsimp only
  have place : ∀ t : State, unassigned (t.eachPkg (placeHold .rail)).keep = unassigned t.keep :=
    fun t => hold_eachPkg _ _ (fun p u => placeHold_hold .rail p u)
  have remove : ∀ t : State, (t.eachPkg (removeHold .rail)).keep = t.keep :=
    fun t => keep_eachPkg _ _ (fun p u => removeHold_keep .rail p u)
  have flags : ∀ (c d : Bool) (t : State), (if c then setFlag .railHigh (if d then setFlag .railLow t else t) else
      (if d then setFlag .railLow t else t)).keep = t.keep := fun c d t => by cases c <;> cases d <;> simp
  split
  · rw [place, flags]
    rfl
  · rw [remove, flags]
    rfl
  · rw [flags]
    rfl

@[simp] theorem judgeUpdate_hold (i : Sensor) (s : State) : unassigned (judgeUpdate i s).keep = unassigned s.keep := by
  cases i <;> simp only [judgeUpdate, judgePkg_hold, judgeRail_hold]
  rw [hold_eachPkg _ _ (fun p t => judgePkg_hold p t), judgeHeatsink_keep]

@[simp] theorem takeReading_keep (i : Sensor) (v : Nat) (s : State) : (takeReading i v s).keep = s.keep := by
  simp [takeReading, keep_zone, keep_setSrc, keep_setChan, keep_setHeat, keep_setGuard, keep_setFan, keep_setLink, keep_setTun, keep_setKpp, ZoneRec.settings]

@[simp] theorem discardAverage_keep (old new : Limits) (i : Sensor) (s : State) : (discardAverage old new i s).keep = s.keep := by
  unfold discardAverage
  repeat' split
  all_goals simp [keep_zone, keep_setSrc, keep_setChan, keep_setHeat, keep_setGuard, keep_setFan, keep_setLink, keep_setTun, keep_setKpp, ZoneRec.settings]

@[simp] theorem releaseLatched_keep (a : ClearArgs) (s : State) : (releaseLatched a s).keep = s.keep := by
  simp [releaseLatched, keep_zone, keep_setSrc, keep_setChan, keep_setHeat, keep_setGuard, keep_setFan, keep_setLink, keep_setTun, keep_setKpp, keep_eachZone, keep_eachChan, keep_eachPkg, keep_eachOut, keep_foldl, ZoneRec.settings, ZoneRec.idle, SourceRec.silent, SourceRec.seek, SourceRec.halt, SourceRec.lockPcm, SourceRec.unlockPcm, SourceRec.achieve, SourceRec.fail, SourceRec.retry, SourceRec.setPcm, SourceRec.takeFrame, SourceRec.setCoded, SourceRec.setBroken, TunerRec.opEnded, TunerRec.measure]

theorem FanRec.retarget_set (r : FanRec) (n : Nat) : (r.retarget n).set = r.set := by
  unfold FanRec.retarget
  repeat' split
  all_goals rfl

theorem FanRec.measAbandon_set (r : FanRec) : r.measAbandon.set = r.set := by
  unfold FanRec.measAbandon
  split <;> rfl

theorem FanRec.afterDuty_set (r : FanRec) (n : Nat) : (r.afterDuty n).set = r.set := by
  unfold FanRec.afterDuty
  split
  · rfl
  · split
    · exact r.measAbandon_set
    · rfl

theorem FanRec.reduceSpinUp_set (r : FanRec) : r.reduceSpinUp.set = r.set := by
  unfold FanRec.reduceSpinUp
  split
  · rw [FanRec.afterDuty_set]
    rfl
  · rfl

theorem FanRec.newPeriod_set (r : FanRec) : r.newPeriod.set = r.set := by
  unfold FanRec.newPeriod
  dsimp only
  split <;> rfl

@[simp] theorem computeTarget_keep (f : FanId) (s : State) : (computeTarget f s).keep = s.keep := by
  unfold computeTarget
  dsimp only
  rw [keep_setFan]
  rw [FanRec.afterDuty_set, FanRec.retarget_set]

@[simp] theorem fanUpdate_keep (i : Sensor) (s : State) : (fanUpdate i s).keep = s.keep := by
  apply keep_foldl
  intro t c
  repeat' split
  all_goals simp [keep_zone, keep_setSrc, keep_setChan, keep_setHeat, keep_setGuard, keep_setFan, keep_setLink, keep_setTun, keep_setKpp, ZoneRec.settings, ZoneRec.idle, SourceRec.silent, SourceRec.seek, SourceRec.halt, SourceRec.lockPcm, SourceRec.unlockPcm, SourceRec.achieve, SourceRec.fail, SourceRec.retry, SourceRec.setPcm, SourceRec.takeFrame, SourceRec.setCoded, SourceRec.setBroken, TunerRec.opEnded, TunerRec.measure]

@[simp] theorem judgeStall_hold (f : FanId) (s : State) : unassigned (judgeStall f s).keep = unassigned s.keep := by
  unfold judgeStall
  dsimp only
  repeat' split
  all_goals simp [keep_zone, keep_setSrc, keep_setChan, keep_setHeat, keep_setGuard, keep_setFan, keep_setLink, keep_setTun, keep_setKpp, ZoneRec.settings]

@[simp] theorem tachUpdate_hold (f : FanId) (s : State) : unassigned (tachUpdate f s).keep = unassigned s.keep := by
  unfold tachUpdate
  dsimp only
  rw [keep_setFan, judgeStall_hold, keep_setFan]
  · exact FanRec.measAbandon_set _
  · rw [FanRec.newPeriod_set, FanRec.reduceSpinUp_set]

@[simp] theorem clearFilters_keep (s : State) : (clearFilters s).keep = s.keep := by
  rfl

@[simp] theorem startSequencers_keep (s : State) : (startSequencers s).keep = s.keep := by
  apply keep_foldl
  intro t c
  rw [State.updSrc_eq, keep_setSrc]
  split <;> rfl

@[simp] theorem haltSequencers_keep (s : State) : (haltSequencers s).keep = s.keep := by
  apply keep_foldl
  intro t c
  simp [keep_zone, keep_setSrc, keep_setChan, keep_setHeat, keep_setGuard, keep_setFan, keep_setLink, keep_setTun, keep_setKpp, keep_eachZone, keep_eachChan, keep_eachPkg, keep_eachOut, keep_foldl, ZoneRec.settings, ZoneRec.idle, SourceRec.silent, SourceRec.seek, SourceRec.halt, SourceRec.lockPcm, SourceRec.unlockPcm, SourceRec.achieve, SourceRec.fail, SourceRec.retry, SourceRec.setPcm, SourceRec.takeFrame, SourceRec.setCoded, SourceRec.setBroken, TunerRec.opEnded, TunerRec.measure]

@[simp] theorem tunerLocked_keep (s : State) : (tunerLocked s).keep = s.keep := by
  unfold tunerLocked
  try dsimp only
  simp [keep_zone, keep_setSrc, keep_setChan, keep_setHeat, keep_setGuard, keep_setFan, keep_setLink, keep_setTun, keep_setKpp, keep_eachZone, keep_eachChan, keep_eachPkg, keep_eachOut, keep_foldl, ZoneRec.settings, ZoneRec.idle, SourceRec.silent, SourceRec.seek, SourceRec.halt, SourceRec.lockPcm, SourceRec.unlockPcm, SourceRec.achieve, SourceRec.fail, SourceRec.retry, SourceRec.setPcm, SourceRec.takeFrame, SourceRec.setCoded, SourceRec.setBroken, TunerRec.opEnded, TunerRec.measure]

@[simp] theorem tunerAbsent_keep (s : State) : (tunerAbsent s).keep = s.keep := by
  unfold tunerAbsent
  try dsimp only
  simp [keep_zone, keep_setSrc, keep_setChan, keep_setHeat, keep_setGuard, keep_setFan, keep_setLink, keep_setTun, keep_setKpp, keep_eachZone, keep_eachChan, keep_eachPkg, keep_eachOut, keep_foldl, ZoneRec.settings, ZoneRec.idle, SourceRec.silent, SourceRec.seek, SourceRec.halt, SourceRec.lockPcm, SourceRec.unlockPcm, SourceRec.achieve, SourceRec.fail, SourceRec.retry, SourceRec.setPcm, SourceRec.takeFrame, SourceRec.setCoded, SourceRec.setBroken, TunerRec.opEnded, TunerRec.measure]

@[simp] theorem judgeLanes_keep (s : State) : (judgeLanes s).keep = s.keep := by
  unfold judgeLanes
  rw [State.updSrc_eq, keep_setSrc]
  split <;> rfl

@[simp] theorem setZoneState_keep (z : ZoneId) (st : ZoneState) (s : State) : (setZoneState z st s).keep = s.keep := by
  unfold setZoneState
  dsimp only
  have base : (s.updZone z (fun r => { r with state := st })).keep = s.keep := keep_setZone s z _ rfl
  split
  · rw [clearFilters_keep]
    exact base
  · exact base

@[simp] theorem enterPlaying_keep (z : ZoneId) (s : State) : (enterPlaying z s).keep = s.keep := by
  simp [enterPlaying, keep_zone, keep_setSrc, keep_setChan, keep_setHeat, keep_setGuard, keep_setFan, keep_setLink, keep_setTun, keep_setKpp, ZoneRec.settings]

@[simp] theorem judgeZone_keep (o : Origin) (z : ZoneId) (s : State) : (judgeZone o z s).keep = s.keep := by
  unfold judgeZone
  repeat' split
  all_goals simp [keep_zone, keep_setSrc, keep_setChan, keep_setHeat, keep_setGuard, keep_setFan, keep_setLink, keep_setTun, keep_setKpp, ZoneRec.settings]

@[simp] theorem givePair_keep (x : Src) (p : PairId) (s : State) : (givePair x p s).keep = s.keep := by
  unfold givePair
  try dsimp only
  simp [keep_zone, keep_setSrc, keep_setChan, keep_setHeat, keep_setGuard, keep_setFan, keep_setLink, keep_setTun, keep_setKpp, keep_eachZone, keep_eachChan, keep_eachPkg, keep_eachOut, keep_foldl, ZoneRec.settings, ZoneRec.idle, SourceRec.silent, SourceRec.seek, SourceRec.halt, SourceRec.lockPcm, SourceRec.unlockPcm, SourceRec.achieve, SourceRec.fail, SourceRec.retry, SourceRec.setPcm, SourceRec.takeFrame, SourceRec.setCoded, SourceRec.setBroken, TunerRec.opEnded, TunerRec.measure]

@[simp] theorem leaveConvWait_keep (z : ZoneId) (s : State) : (leaveConvWait z s).keep = s.keep := by
  rfl

@[simp] theorem serveConverter_keep (z : ZoneId) (s : State) : (serveConverter z s).keep = s.keep := by
  unfold serveConverter
  dsimp only
  split
  · exact keep_setZone s z _ rfl
  · split
    · rw [State.updZone_eq, keep_setZone, givePair_keep]
      rfl
    · rfl

@[simp] theorem grantPair_keep (p : PairId) (s : State) : (grantPair p s).keep = s.keep := by
  unfold grantPair
  split
  · rfl
  · next h _ _ =>
    refine (keep_foldl (fun t z => t.updZone z (fun r => { r with pair := some p })) _ (givePair (s.zone h).source p s)
      (fun t z => keep_setZone t z _ rfl)).trans ?_
    exact givePair_keep _ _ _

@[simp] theorem leaveListeners_keep (z : ZoneId) (x : Src) (s : State) : (leaveListeners z x s).keep = s.keep := by
  unfold leaveListeners
  try dsimp only
  repeat' split
  all_goals simp [keep_zone, keep_setSrc, keep_setChan, keep_setHeat, keep_setGuard, keep_setFan, keep_setLink, keep_setTun, keep_setKpp, ZoneRec.settings, ZoneRec.idle, SourceRec.silent, SourceRec.seek, SourceRec.halt, SourceRec.lockPcm, SourceRec.unlockPcm, SourceRec.achieve, SourceRec.fail, SourceRec.retry, SourceRec.setPcm, SourceRec.takeFrame, SourceRec.setCoded, SourceRec.setBroken, TunerRec.opEnded, TunerRec.measure]

@[simp] theorem joinListeners_keep (z : ZoneId) (x : Src) (s : State) : (joinListeners z x s).keep = s.keep := by
  simp [joinListeners, keep_zone, keep_setSrc, keep_setChan, keep_setHeat, keep_setGuard, keep_setFan, keep_setLink, keep_setTun, keep_setKpp, ZoneRec.settings]

@[simp] theorem joinEngine_keep (z : ZoneId) (e : EngineId) (s : State) : (joinEngine z e s).keep = s.keep := by
  unfold joinEngine
  dsimp only
  rw [State.updZone_eq, keep_setZone]
  · rfl
  · rfl

@[simp] theorem bindEngine_keep (z : ZoneId) (e : EngineId) (x : Src) (s : State) : (bindEngine z e x s).keep = s.keep := by
  unfold bindEngine
  split
  · dsimp only
    rw [joinEngine_keep, State.updSrc_eq, keep_setSrc]
    · rfl
    · rfl
  · rfl

@[simp] theorem askEngine_keep (o : Origin) (z : ZoneId) (s : State) : (askEngine o z s).keep = s.keep := by
  unfold askEngine
  dsimp only
  split
  · simp
  · split
    · simp
    · rfl

@[simp] theorem reevaluateFor_keep (o : Origin) (z : ZoneId) (s : State) : (reevaluateFor o z s).keep = s.keep := by
  unfold reevaluateFor
  dsimp only
  repeat' split
  all_goals simp [keep_zone, keep_setSrc, keep_setChan, keep_setHeat, keep_setGuard, keep_setFan, keep_setLink, keep_setTun, keep_setKpp, ZoneRec.settings]

@[simp] theorem reevaluate_keep (z : ZoneId) (s : State) : (reevaluate z s).keep = s.keep := reevaluateFor_keep .part z s

@[simp] theorem reevaluateAll_keep (l : List ZoneId) (s : State) : (reevaluateAll l s).keep = s.keep := by
  apply keep_foldl
  intro t c
  simp [keep_zone, keep_setSrc, keep_setChan, keep_setHeat, keep_setGuard, keep_setFan, keep_setLink, keep_setTun, keep_setKpp, keep_eachZone, keep_eachChan, keep_eachPkg, keep_eachOut, keep_foldl, ZoneRec.settings, ZoneRec.idle, SourceRec.silent, SourceRec.seek, SourceRec.halt, SourceRec.lockPcm, SourceRec.unlockPcm, SourceRec.achieve, SourceRec.fail, SourceRec.retry, SourceRec.setPcm, SourceRec.takeFrame, SourceRec.setCoded, SourceRec.setBroken, TunerRec.opEnded, TunerRec.measure]

@[simp] theorem offerEngine_keep (e : EngineId) (s : State) : (offerEngine e s).keep = s.keep := by
  unfold offerEngine
  dsimp only
  repeat' split
  all_goals simp [keep_zone, keep_setSrc, keep_setChan, keep_setHeat, keep_setGuard, keep_setFan, keep_setLink, keep_setTun, keep_setKpp, keep_eachZone, keep_eachChan, keep_eachPkg, keep_eachOut, keep_foldl, ZoneRec.settings, ZoneRec.idle, SourceRec.silent, SourceRec.seek, SourceRec.halt, SourceRec.lockPcm, SourceRec.unlockPcm, SourceRec.achieve, SourceRec.fail, SourceRec.retry, SourceRec.setPcm, SourceRec.takeFrame, SourceRec.setCoded, SourceRec.setBroken, TunerRec.opEnded, TunerRec.measure]

@[simp] theorem leaveEngine_keep (z : ZoneId) (s : State) : (leaveEngine z s).keep = s.keep := by
  unfold leaveEngine
  split
  · rfl
  · next e _ =>
    have base : ((s.updZone z (fun r => { r with engine := none })).updEng e
        (fun r => { r with consumers := r.consumers.put z false })).keep = s.keep := by
      rw [State.updEng_eq, keep_setEng, State.updZone_eq, keep_setZone]
      rfl
    generalize (s.updZone z (fun r => { r with engine := none })).updEng e
        (fun r => { r with consumers := r.consumers.put z false }) = t at base
    dsimp only
    split
    · rw [offerEngine_keep, State.updEng_eq, keep_setEng]
      split
      · exact base
      · rw [State.updSrc_eq, keep_setSrc, base]
        rfl
    · exact base

@[simp] theorem leaveEngineWait_keep (z : ZoneId) (s : State) : (leaveEngineWait z s).keep = s.keep := by
  rfl

@[simp] theorem sweepGranted_keep (s : State) : (sweepGranted s).keep = s.keep := by
  apply keep_eachZone
  intro c t
  repeat' split
  all_goals simp

@[simp] theorem wakeSource_keep (o : ZoneId → Origin) (x : Src) (s : State) : (wakeSource o x s).keep = s.keep := by
  unfold wakeSource
  split
  · rw [keep_foldl _ _ _ (fun t z => reevaluateFor_keep (o z) z t), State.updSrc_eq, keep_setSrc]
    rfl
  · rfl

@[simp] theorem selectSource_keep (o : Origin) (z : ZoneId) (x : Src) (s : State) : (selectSource o z x s).keep = s.keep :=
  wakeSource_keep _ x s

@[simp] theorem enterAcquiring_keep (z : ZoneId) (o : Origin) (s : State) : (enterAcquiring z o s).keep = s.keep := by
  simp [enterAcquiring, keep_zone, keep_setSrc, keep_setChan, keep_setHeat, keep_setGuard, keep_setFan, keep_setLink, keep_setTun, keep_setKpp, ZoneRec.settings]

@[simp] theorem enterSwitching_keep (z : ZoneId) (pending : Option Src) (o : Origin) (s : State) : (enterSwitching z pending o s).keep = s.keep := by
  simp [enterSwitching, keep_zone, keep_setSrc, keep_setChan, keep_setHeat, keep_setGuard, keep_setFan, keep_setLink, keep_setTun, keep_setKpp, ZoneRec.settings]

@[simp] theorem dropTaken_keep (z : ZoneId) (s : State) : (dropTaken z s).keep = s.keep := by
  rfl

@[simp] theorem releaseZone_keep (z : ZoneId) (s : State) : (releaseZone z s).keep = s.keep := by
  simp [releaseZone, keep_zone, keep_setSrc, keep_setChan, keep_setHeat, keep_setGuard, keep_setFan, keep_setLink, keep_setTun, keep_setKpp, ZoneRec.settings]

@[simp] theorem enterStandby_keep (z : ZoneId) (o : Origin) (s : State) : (enterStandby z o s).keep = s.keep := by
  unfold enterStandby
  try dsimp only
  repeat' split
  all_goals simp [keep_zone, keep_setSrc, keep_setChan, keep_setHeat, keep_setGuard, keep_setFan, keep_setLink, keep_setTun, keep_setKpp, ZoneRec.settings, ZoneRec.idle, SourceRec.silent, SourceRec.seek, SourceRec.halt, SourceRec.lockPcm, SourceRec.unlockPcm, SourceRec.achieve, SourceRec.fail, SourceRec.retry, SourceRec.setPcm, SourceRec.takeFrame, SourceRec.setCoded, SourceRec.setBroken, TunerRec.opEnded, TunerRec.measure]

@[simp] theorem loseAudio_keep (z : ZoneId) (w : WaitReason) (s : State) : (loseAudio z w s).keep = s.keep := by
  unfold loseAudio
  repeat' split
  all_goals simp [keep_zone, keep_setSrc, keep_setChan, keep_setHeat, keep_setGuard, keep_setFan, keep_setLink, keep_setTun, keep_setKpp, ZoneRec.settings]

@[simp] theorem loseAudioAll_keep (l : List ZoneId) (w : WaitReason) (s : State) : (loseAudioAll l w s).keep = s.keep := by
  apply keep_foldl
  intro t c
  simp [keep_zone, keep_setSrc, keep_setChan, keep_setHeat, keep_setGuard, keep_setFan, keep_setLink, keep_setTun, keep_setKpp, keep_eachZone, keep_eachChan, keep_eachPkg, keep_eachOut, keep_foldl, ZoneRec.settings, ZoneRec.idle, SourceRec.silent, SourceRec.seek, SourceRec.halt, SourceRec.lockPcm, SourceRec.unlockPcm, SourceRec.achieve, SourceRec.fail, SourceRec.retry, SourceRec.setPcm, SourceRec.takeFrame, SourceRec.setCoded, SourceRec.setBroken, TunerRec.opEnded, TunerRec.measure]

@[simp] theorem cancelSwitch_keep (z : ZoneId) (o : Origin) (s : State) : (cancelSwitch z o s).keep = s.keep := by
  unfold cancelSwitch
  dsimp only
  repeat' split
  all_goals simp [keep_zone, keep_setSrc, keep_setChan, keep_setHeat, keep_setGuard, keep_setFan, keep_setLink, keep_setTun, keep_setKpp, ZoneRec.settings]

@[simp] theorem endDrainOf_keep (z : ZoneId) (s : State) : (endDrainOf z s).keep = s.keep := by
  unfold endDrainOf
  dsimp only
  repeat' split
  all_goals simp [keep_zone, keep_setSrc, keep_setChan, keep_setHeat, keep_setGuard, keep_setFan, keep_setLink, keep_setTun, keep_setKpp, ZoneRec.settings]

@[simp] theorem pruneEngineWait_keep (x : Src) (s : State) : (pruneEngineWait x s).keep = s.keep := by
  unfold pruneEngineWait
  split <;> rfl

@[simp] theorem releaseConsumer_keep (z : ZoneId) (s : State) : (releaseConsumer z s).keep = s.keep := by
  simp [releaseConsumer, keep_zone, keep_setSrc, keep_setChan, keep_setHeat, keep_setGuard, keep_setFan, keep_setLink, keep_setTun, keep_setKpp, ZoneRec.settings]

@[simp] theorem reloadEngine_keep (e : EngineId) (f : EngineFormat) (rate : Rate) (s : State) : (reloadEngine e f rate s).keep = s.keep := by
  simp [reloadEngine, keep_zone, keep_setSrc, keep_setChan, keep_setHeat, keep_setGuard, keep_setFan, keep_setLink, keep_setTun, keep_setKpp, ZoneRec.settings]

@[simp] theorem takeCoded_keep (e : EngineId) (f : EngineFormat) (rate : Rate) (s : State) : (takeCoded e f rate s).keep = s.keep := by
  unfold takeCoded
  repeat' split
  all_goals simp [keep_zone, keep_setSrc, keep_setChan, keep_setHeat, keep_setGuard, keep_setFan, keep_setLink, keep_setTun, keep_setKpp, ZoneRec.settings]

@[simp] theorem takePcm2_keep (e : EngineId) (rate : Rate) (s : State) : (takePcm2 e rate s).keep = s.keep := by
  simp [takePcm2, keep_zone, keep_setSrc, keep_setChan, keep_setHeat, keep_setGuard, keep_setFan, keep_setLink, keep_setTun, keep_setKpp, keep_eachZone, keep_eachChan, keep_eachPkg, keep_eachOut, keep_foldl, ZoneRec.settings, ZoneRec.idle, SourceRec.silent, SourceRec.seek, SourceRec.halt, SourceRec.lockPcm, SourceRec.unlockPcm, SourceRec.achieve, SourceRec.fail, SourceRec.retry, SourceRec.setPcm, SourceRec.takeFrame, SourceRec.setCoded, SourceRec.setBroken, TunerRec.opEnded, TunerRec.measure]

@[simp] theorem engineFormat_keep (e : EngineId) (x : Src) (s : State) : (engineFormat e x s).keep = s.keep := by
  unfold engineFormat
  dsimp only
  repeat' split
  all_goals simp [keep_zone, keep_setSrc, keep_setChan, keep_setHeat, keep_setGuard, keep_setFan, keep_setLink, keep_setTun, keep_setKpp, keep_eachZone, keep_eachChan, keep_eachPkg, keep_eachOut, keep_foldl, ZoneRec.settings, ZoneRec.idle, SourceRec.silent, SourceRec.seek, SourceRec.halt, SourceRec.lockPcm, SourceRec.unlockPcm, SourceRec.achieve, SourceRec.fail, SourceRec.retry, SourceRec.setPcm, SourceRec.takeFrame, SourceRec.setCoded, SourceRec.setBroken, TunerRec.opEnded, TunerRec.measure]

@[simp] theorem enginePart_keep (x : Src) (s : State) : (enginePart x s).keep = s.keep := by
  unfold enginePart
  dsimp only
  repeat' split
  all_goals simp [keep_zone, keep_setSrc, keep_setChan, keep_setHeat, keep_setGuard, keep_setFan, keep_setLink, keep_setTun, keep_setKpp, ZoneRec.settings]

@[simp] theorem secondReport_keep (l : List ZoneId) (s : State) : (secondReport l s).keep = s.keep := by
  simp [secondReport, keep_zone, keep_setSrc, keep_setChan, keep_setHeat, keep_setGuard, keep_setFan, keep_setLink, keep_setTun, keep_setKpp, ZoneRec.settings]

@[simp] theorem postFormat_keep (x : Src) (broken : Bool) (s : State) : (postFormat x broken s).keep = s.keep := by
  simp [postFormat, keep_zone, keep_setSrc, keep_setChan, keep_setHeat, keep_setGuard, keep_setFan, keep_setLink, keep_setTun, keep_setKpp, ZoneRec.settings]

theorem handOn_keep (x : Src) (zc notice : State → State) (s : State) (h : ∀ t, (zc t).keep = t.keep)
    (g : ∀ t, (notice t).keep = t.keep) : (handOn x zc notice s).keep = s.keep := by
  unfold handOn
  rw [secondReport_keep, keep_any _ _ _ _ h (fun t => enginePart_keep x t) g]

@[simp] theorem established_keep (x : Src) (s : State) : (established x s).keep = s.keep :=
  handOn_keep x _ _ s (fun t => reevaluateAll_keep _ t) (fun t => postFormat_keep x false t)

@[simp] theorem formatChanged_keep (x : Src) (s : State) : (formatChanged x s).keep = s.keep :=
  handOn_keep x _ _ s (fun t => loseAudioAll_keep _ _ t) (fun t => postFormat_keep x false t)

@[simp] theorem formatTaken_keep (x : Src) (old : Format) (s : State) : (formatTaken x old s).keep = s.keep := by
  unfold formatTaken
  repeat' split
  all_goals simp [keep_zone, keep_setSrc, keep_setChan, keep_setHeat, keep_setGuard, keep_setFan, keep_setLink, keep_setTun, keep_setKpp, ZoneRec.settings]

@[simp] theorem achieveLock_keep (x : Src) (f : Rate) (s : State) : (achieveLock x f s).keep = s.keep := by
  unfold achieveLock
  try dsimp only
  simp [keep_zone, keep_setSrc, keep_setChan, keep_setHeat, keep_setGuard, keep_setFan, keep_setLink, keep_setTun, keep_setKpp, keep_eachZone, keep_eachChan, keep_eachPkg, keep_eachOut, keep_foldl, ZoneRec.settings, ZoneRec.idle, SourceRec.silent, SourceRec.seek, SourceRec.halt, SourceRec.lockPcm, SourceRec.unlockPcm, SourceRec.achieve, SourceRec.fail, SourceRec.retry, SourceRec.setPcm, SourceRec.takeFrame, SourceRec.setCoded, SourceRec.setBroken, TunerRec.opEnded, TunerRec.measure]

@[simp] theorem failAttempt_keep (x : Src) (s : State) : (failAttempt x s).keep = s.keep := by
  unfold failAttempt
  dsimp only
  have base : (s.updSrc x SourceRec.fail).keep = s.keep := by
    rw [State.updSrc_eq, keep_setSrc]
    unfold SourceRec.fail
    dsimp only
    split <;> rfl
  split
  · rw [keep_either _ _ _ (fun t => reevaluateAll_keep _ t) (fun t => post_keep t _ _)]
    exact base
  · exact base

@[simp] theorem loseLock_keep (x : Src) (s : State) : (loseLock x s).keep = s.keep := by
  unfold loseLock
  dsimp only
  rw [handOn_keep x _ _ _ (fun t => loseAudioAll_keep _ _ t) (fun t => post_keep t _ _)]
  exact keep_setSrc s x _ rfl

@[simp] theorem syncExpiry_keep (c : Clocked) (s : State) : (syncExpiry c s).keep = s.keep := by
  unfold syncExpiry
  try dsimp only
  repeat' split
  all_goals simp [keep_zone, keep_setSrc, keep_setChan, keep_setHeat, keep_setGuard, keep_setFan, keep_setLink, keep_setTun, keep_setKpp, ZoneRec.settings, ZoneRec.idle, SourceRec.silent, SourceRec.seek, SourceRec.halt, SourceRec.lockPcm, SourceRec.unlockPcm, SourceRec.achieve, SourceRec.fail, SourceRec.retry, SourceRec.setPcm, SourceRec.takeFrame, SourceRec.setCoded, SourceRec.setBroken, TunerRec.opEnded, TunerRec.measure]

@[simp] theorem laneExpiry_keep (s : State) : (laneExpiry s).keep = s.keep := by
  simp [laneExpiry, keep_zone, keep_setSrc, keep_setChan, keep_setHeat, keep_setGuard, keep_setFan, keep_setLink, keep_setTun, keep_setKpp, ZoneRec.settings]

@[simp] theorem breakStream_keep (x : Src) (e : EngineId) (s : State) : (breakStream x e s).keep = s.keep := by
  unfold breakStream
  dsimp only
  split
  · rw [handOn_keep x _ _ _ (fun t => loseAudioAll_keep _ _ t) (fun t => postFormat_keep x true t)]
    rw [State.updSrc_eq, keep_setSrc]
    · rfl
    · rfl
  · rfl

@[simp] theorem handFrame_keep (x : Src) (j : Judgement) (f : FrameIn) (s : State) : (handFrame x j f s).keep = s.keep := by
  unfold handFrame
  dsimp only
  repeat' split
  all_goals simp [keep_zone, keep_setSrc, keep_setChan, keep_setHeat, keep_setGuard, keep_setFan, keep_setLink, keep_setTun, keep_setKpp, ZoneRec.settings]

@[simp] theorem takeCodedFrame_keep (x : Src) (f : FrameIn) (s : State) : (takeCodedFrame x f s).keep = s.keep := by
  unfold takeCodedFrame
  try dsimp only
  repeat' split
  all_goals simp [keep_zone, keep_setSrc, keep_setChan, keep_setHeat, keep_setGuard, keep_setFan, keep_setLink, keep_setTun, keep_setKpp, ZoneRec.settings, ZoneRec.idle, SourceRec.silent, SourceRec.seek, SourceRec.halt, SourceRec.lockPcm, SourceRec.unlockPcm, SourceRec.achieve, SourceRec.fail, SourceRec.retry, SourceRec.setPcm, SourceRec.takeFrame, SourceRec.setCoded, SourceRec.setBroken, TunerRec.opEnded, TunerRec.measure]

@[simp] theorem endLoad_keep (e : EngineId) (s : State) : (endLoad e s).keep = s.keep := by
  simp [endLoad, keep_zone, keep_setSrc, keep_setChan, keep_setHeat, keep_setGuard, keep_setFan, keep_setLink, keep_setTun, keep_setKpp, ZoneRec.settings]

@[simp] theorem powerOn_keep (o : Origin) (z : ZoneId) (s : State) : (powerOn o z s).keep = s.keep := by
  unfold powerOn
  dsimp only
  repeat' split
  all_goals simp [keep_zone, keep_setSrc, keep_setChan, keep_setHeat, keep_setGuard, keep_setFan, keep_setLink, keep_setTun, keep_setKpp, ZoneRec.settings]

@[simp] theorem goStandby_keep (o : Origin) (z : ZoneId) (s : State) : (goStandby o z s).keep = s.keep := by
  unfold goStandby
  repeat' split
  all_goals simp [keep_zone, keep_setSrc, keep_setChan, keep_setHeat, keep_setGuard, keep_setFan, keep_setLink, keep_setTun, keep_setKpp, ZoneRec.settings]

@[simp] theorem powerStandby_keep (o : Origin) (z : ZoneId) (s : State) : (powerStandby o z s).keep = s.keep := by
  simp [powerStandby, keep_zone, keep_setSrc, keep_setChan, keep_setHeat, keep_setGuard, keep_setFan, keep_setLink, keep_setTun, keep_setKpp, ZoneRec.settings]

@[simp] theorem powerToggle_keep (o : Origin) (z : ZoneId) (s : State) : (powerToggle o z s).keep = s.keep := by
  unfold powerToggle
  repeat' split
  all_goals simp [keep_zone, keep_setSrc, keep_setChan, keep_setHeat, keep_setGuard, keep_setFan, keep_setLink, keep_setTun, keep_setKpp, ZoneRec.settings]

theorem giveSource_keep (o : Origin) (z : ZoneId) (x : Src) (s : State) : (giveSource o z x s).1.keep = s.keep := by
  unfold giveSource
  dsimp only
  repeat' split
  all_goals simp [keep_zone]

@[simp] theorem leaveTaken_keep (o : Origin) (z : ZoneId) (s : State) : (leaveTaken o z s).keep = s.keep := by
  unfold leaveTaken
  split
  · rw [dropTaken_keep]
    split
    · rw [stamp_keep]
      exact keep_setZone s z _ rfl
    · rfl
  · rfl

@[simp] theorem takeZone_keep (z : ZoneId) (s : State) : (takeZone z s).keep = s.keep := by
  unfold takeZone
  dsimp only
  split <;> split
  all_goals first
    | rfl
    | rw [giveSource_keep, stamp_keep]
      exact keep_setZone s z _ rfl

@[simp] theorem returnZone_keep (z : ZoneId) (s : State) : (returnZone z s).keep = s.keep := by
  unfold returnZone
  split
  · rfl
  · rw [giveSource_keep, stamp_keep]
    exact keep_setZone s z _ rfl

@[simp] theorem sleepExpire_keep (z : ZoneId) (s : State) : (sleepExpire z s).keep = s.keep := by
  simp [sleepExpire, keep_zone, keep_setSrc, keep_setChan, keep_setHeat, keep_setGuard, keep_setFan, keep_setLink, keep_setTun, keep_setKpp, ZoneRec.settings]

@[simp] theorem sleepMinute_keep (z : ZoneId) (s : State) : (sleepMinute z s).keep = s.keep := by
  unfold sleepMinute
  repeat' split
  all_goals simp [keep_zone, keep_setSrc, keep_setChan, keep_setHeat, keep_setGuard, keep_setFan, keep_setLink, keep_setTun, keep_setKpp, ZoneRec.settings]

@[simp] theorem modeChanged_keep (o : Origin) (before after : Bool) (s : State) : (modeChanged o before after s).keep = s.keep := by
  unfold modeChanged
  repeat' split
  all_goals simp [keep_zone, keep_setSrc, keep_setChan, keep_setHeat, keep_setGuard, keep_setFan, keep_setLink, keep_setTun, keep_setKpp, ZoneRec.settings]

@[simp] theorem retuneReported_keep (s : State) : (retuneReported s).keep = s.keep := by
  rfl

@[simp] theorem startAnnouncement_keep (cls : Nat) (code : BitVec 16) (s : State) :
    (startAnnouncement cls code s).keep = s.keep := by
  unfold startAnnouncement
  dsimp only
  rw [keep_either _ _ _ (fun t => keep_foldl _ _ _ (fun u z => takeZone_keep z u)) (fun t => post_keep t _ _)]
  rfl

@[simp] theorem endAnnouncement_keep (cause : AnnCause) (s : State) : (endAnnouncement cause s).keep = s.keep := by
  unfold endAnnouncement
  dsimp only
  rw [keep_either _ _ _ (fun t => keep_foldl _ _ _ (fun u z => returnZone_keep z u)) (fun t => post_keep t _ _)]
  rfl

@[simp] theorem flagCleared_keep (s : State) : (flagCleared s).keep = s.keep := by
  simp [flagCleared, keep_zone, keep_setSrc, keep_setChan, keep_setHeat, keep_setGuard, keep_setFan, keep_setLink, keep_setTun, keep_setKpp, ZoneRec.settings]

@[simp] theorem flagSeen_keep (cls : Nat) (code : BitVec 16) (s : State) : (flagSeen cls code s).keep = s.keep := by
  unfold flagSeen
  repeat' split
  all_goals simp [keep_zone, keep_setSrc, keep_setChan, keep_setHeat, keep_setGuard, keep_setFan, keep_setLink, keep_setTun, keep_setKpp, ZoneRec.settings]

@[simp] theorem announceLeaveIdle_keep (s : State) : (announceLeaveIdle s).keep = s.keep := by
  simp [announceLeaveIdle, keep_zone, keep_setSrc, keep_setChan, keep_setHeat, keep_setGuard, keep_setFan, keep_setLink, keep_setTun, keep_setKpp, ZoneRec.settings]

@[simp] theorem holdExpiry_keep (s : State) : (holdExpiry s).keep = s.keep := by
  simp [holdExpiry, keep_zone, keep_setSrc, keep_setChan, keep_setHeat, keep_setGuard, keep_setFan, keep_setLink, keep_setTun, keep_setKpp, ZoneRec.settings]

@[simp] theorem startDwell_keep (cold back : Bool) (b : Band) (c : Nat) (s : State) : (startDwell cold back b c s).keep = s.keep := by
  simp [startDwell, keep_zone, keep_setSrc, keep_setChan, keep_setHeat, keep_setGuard, keep_setFan, keep_setLink, keep_setTun, keep_setKpp, ZoneRec.settings]

@[simp] theorem leaveIdle_keep (st : TunerState) (o : Origin) (s : State) : (leaveIdle st o s).keep = s.keep := by
  simp [leaveIdle, keep_zone, keep_setSrc, keep_setChan, keep_setHeat, keep_setGuard, keep_setFan, keep_setLink, keep_setTun, keep_setKpp, ZoneRec.settings]

@[simp] theorem enterTunerIdle_keep (op : TunedOp) (st : Status) (changed : Bool) (s : State) :
    (enterTunerIdle op st changed s).keep = s.keep := by
  unfold enterTunerIdle
  dsimp only
  rw [handOn_keep _ _ _ _ (fun t => reevaluateAll_keep _ t) (fun t => post_keep t _ _), tunerLocked_keep]
  exact keep_setTun s _ rfl rfl rfl

@[simp] theorem endOperation_keep (op : TunedOp) (st : Status) (data : List Byte) (s : State) : (endOperation op st data s).keep = s.keep := by
  simp [endOperation, keep_zone, keep_setSrc, keep_setChan, keep_setHeat, keep_setGuard, keep_setFan, keep_setLink, keep_setTun, keep_setKpp, ZoneRec.settings]

@[simp] theorem startOperation_keep (st : TunerState) (o : Origin) (s : State) : (startOperation st o s).keep = s.keep := by
  unfold startOperation
  try dsimp only
  repeat' split
  all_goals simp [keep_zone, keep_setSrc, keep_setChan, keep_setHeat, keep_setGuard, keep_setFan, keep_setLink, keep_setTun, keep_setKpp, ZoneRec.settings, ZoneRec.idle, SourceRec.silent, SourceRec.seek, SourceRec.halt, SourceRec.lockPcm, SourceRec.unlockPcm, SourceRec.achieve, SourceRec.fail, SourceRec.retry, SourceRec.setPcm, SourceRec.takeFrame, SourceRec.setCoded, SourceRec.setBroken, TunerRec.opEnded, TunerRec.measure]

@[simp] theorem tuneTo_keep (o : Origin) (b : Band) (c : Nat) (k : Option Ticket) (s : State) : (tuneTo o b c k s).keep = s.keep := by
  simp [tuneTo, keep_zone, keep_setSrc, keep_setChan, keep_setHeat, keep_setGuard, keep_setFan, keep_setLink, keep_setTun, keep_setKpp, ZoneRec.settings]

@[simp] theorem feedBaseline_keep (q : Nat) (s : State) : (feedBaseline q s).keep = s.keep := by
  unfold feedBaseline
  repeat' split
  all_goals simp [keep_zone, keep_setSrc, keep_setChan, keep_setHeat, keep_setGuard, keep_setFan, keep_setLink, keep_setTun, keep_setKpp, ZoneRec.settings]

@[simp] theorem seekOn_keep (s : State) : (seekOn s).keep = s.keep := by
  unfold seekOn
  dsimp only
  repeat' split
  all_goals simp [keep_zone, keep_setSrc, keep_setChan, keep_setHeat, keep_setGuard, keep_setFan, keep_setLink, keep_setTun, keep_setKpp, ZoneRec.settings]

@[simp] theorem stationFound_keep (s : State) : (stationFound s).keep = s.keep := by
  simp [stationFound, keep_zone, keep_setSrc, keep_setChan, keep_setHeat, keep_setGuard, keep_setFan, keep_setLink, keep_setTun, keep_setKpp, ZoneRec.settings]

@[simp] theorem scanOn_keep (s : State) : (scanOn s).keep = s.keep := by
  unfold scanOn
  repeat' split
  all_goals simp [keep_zone, keep_setSrc, keep_setChan, keep_setHeat, keep_setGuard, keep_setFan, keep_setLink, keep_setTun, keep_setKpp, ZoneRec.settings]

@[simp] theorem scanStart_keep (o : Origin) (b : Band) (first last : Nat) (k : Ticket) (s : State) : (scanStart o b first last k s).keep = s.keep := by
  simp [scanStart, keep_zone, keep_setSrc, keep_setChan, keep_setHeat, keep_setGuard, keep_setFan, keep_setLink, keep_setTun, keep_setKpp, ZoneRec.settings]

@[simp] theorem afOn_keep (pos : Nat) (s : State) : (afOn pos s).keep = s.keep := by
  unfold afOn
  repeat' split
  all_goals simp [keep_zone, keep_setSrc, keep_setChan, keep_setHeat, keep_setGuard, keep_setFan, keep_setLink, keep_setTun, keep_setKpp, ZoneRec.settings]

@[simp] theorem afBegin_keep (code : BitVec 16) (s : State) : (afBegin code s).keep = s.keep := by
  simp [afBegin, keep_zone, keep_setSrc, keep_setChan, keep_setHeat, keep_setGuard, keep_setFan, keep_setLink, keep_setTun, keep_setKpp, ZoneRec.settings]

@[simp] theorem codeReported_keep (code : BitVec 16) (s : State) : (codeReported code s).keep = s.keep := by
  unfold codeReported
  repeat' split
  all_goals simp [keep_zone, keep_setSrc, keep_setChan, keep_setHeat, keep_setGuard, keep_setFan, keep_setLink, keep_setTun, keep_setKpp, ZoneRec.settings]

@[simp] theorem monitorMeasure_keep (q : Nat) (pilot : Bool) (s : State) : (monitorMeasure q pilot s).keep = s.keep := by
  unfold monitorMeasure
  dsimp only
  split <;> rfl

@[simp] theorem weakExpiry_keep (s : State) : (weakExpiry s).keep = s.keep := by
  unfold weakExpiry
  repeat' split
  all_goals simp [keep_zone, keep_setSrc, keep_setChan, keep_setHeat, keep_setGuard, keep_setFan, keep_setLink, keep_setTun, keep_setKpp, ZoneRec.settings]

theorem searchJudge_keep (d : Dwell) (found next : State → State) (s : State) (h : ∀ t, (found t).keep = t.keep)
    (g : ∀ t, (next t).keep = t.keep) : (searchJudge d found next s).keep = s.keep := by
  unfold searchJudge
  repeat' split
  all_goals simp [h, g]

@[simp] theorem endDwell_keep (q : Nat) (pilot : Bool) (s : State) : (endDwell q pilot s).keep = s.keep := by
  unfold endDwell
  split
  · rfl
  · dsimp only
    have base : (s.setTun { s.tun.measure q pilot with dwell := none }).keep = s.keep := rfl
    repeat' split
    all_goals first
      | exact base
      | rw [searchJudge_keep _ _ _ _ (fun t => by simp) (fun t => by simp)]; exact base
      | simp only [enterTunerIdle_keep, endOperation_keep, afOn_keep, startDwell_keep]; exact base

@[simp] theorem stopReturning_keep (o : Origin) (s : State) : (stopReturning o s).keep = s.keep := by
  unfold stopReturning
  try dsimp only
  repeat' split
  all_goals simp [keep_zone, keep_setSrc, keep_setChan, keep_setHeat, keep_setGuard, keep_setFan, keep_setLink, keep_setTun, keep_setKpp, ZoneRec.settings, ZoneRec.idle, SourceRec.silent, SourceRec.seek, SourceRec.halt, SourceRec.lockPcm, SourceRec.unlockPcm, SourceRec.achieve, SourceRec.fail, SourceRec.retry, SourceRec.setPcm, SourceRec.takeFrame, SourceRec.setCoded, SourceRec.setBroken, TunerRec.opEnded, TunerRec.measure]

@[simp] theorem commitStation_keep (f : Station → Station) (s : State) : (commitStation f s).keep = s.keep := by
  simp [commitStation, keep_zone, keep_setSrc, keep_setChan, keep_setHeat, keep_setGuard, keep_setFan, keep_setLink, keep_setTun, keep_setKpp, ZoneRec.settings]

@[simp] theorem regionRetune_keep (freq raster : Nat) (s : State) : (regionRetune freq raster s).keep = s.keep := by
  unfold regionRetune
  repeat' split
  all_goals simp [keep_zone, keep_setSrc, keep_setChan, keep_setHeat, keep_setGuard, keep_setFan, keep_setLink, keep_setTun, keep_setKpp, ZoneRec.settings]

@[simp] theorem enterSync_keep (p : WordPos) (s : State) : (enterSync p s).keep = s.keep := by
  rfl

@[simp] theorem commitCode_keep (code : BitVec 16) (s : State) : (commitCode code s).keep = s.keep := by
  simp [commitCode, keep_zone, keep_setSrc, keep_setChan, keep_setHeat, keep_setGuard, keep_setFan, keep_setLink, keep_setTun, keep_setKpp, ZoneRec.settings]

@[simp] theorem takeCode_keep (code : BitVec 16) (s : State) : (takeCode code s).keep = s.keep := by
  unfold takeCode
  repeat' split
  all_goals simp [keep_zone, keep_setSrc, keep_setChan, keep_setHeat, keep_setGuard, keep_setFan, keep_setLink, keep_setTun, keep_setKpp, ZoneRec.settings]

@[simp] theorem commitName_keep (n : List Byte) (s : State) : (commitName n s).keep = s.keep := by
  simp [commitName, keep_zone, keep_setSrc, keep_setChan, keep_setHeat, keep_setGuard, keep_setFan, keep_setLink, keep_setTun, keep_setKpp, ZoneRec.settings]

@[simp] theorem takeChars_keep (seg : Fin 4) (ch : Byte × Byte) (s : State) : (takeChars seg ch s).keep = s.keep := by
  unfold takeChars
  dsimp only
  repeat' split
  all_goals simp [keep_zone, keep_setSrc, keep_setChan, keep_setHeat, keep_setGuard, keep_setFan, keep_setLink, keep_setTun, keep_setKpp, ZoneRec.settings]

@[simp] theorem takeType0_keep (a b c d : BitVec 16) (s : State) : (takeType0 a b c d s).keep = s.keep := by
  simp [takeType0, keep_zone, keep_setSrc, keep_setChan, keep_setHeat, keep_setGuard, keep_setFan, keep_setLink, keep_setTun, keep_setKpp, ZoneRec.settings]

@[simp] theorem takeGroup_keep (a b c d : BitVec 16) (s : State) : (takeGroup a b c d s).keep = s.keep := by
  have other : ∀ t : State, (countOther t).keep = t.keep := fun _ => rfl
  unfold takeGroup
  dsimp only
  repeat' split
  all_goals simp [other]

@[simp] theorem loseSync_keep (s : State) : (loseSync s).keep = s.keep := by
  unfold loseSync
  rw [flagCleared_keep]
  rfl

@[simp] theorem readWord_keep (s : State) : (readWord s).keep = s.keep := by
  unfold readWord
  dsimp only
  repeat' split
  all_goals first
    | rfl
    | rw [takeGroup_keep]; rfl
    | rw [loseSync_keep]; rfl

@[simp] theorem readBits_keep (n : Nat) (s : State) : (readBits n s).keep = s.keep := by
  induction n generalizing s with
  | zero => rfl
  | succ k ih =>
    unfold readBits
    repeat' split
    all_goals first
      | rfl
      | rw [ih]; rfl
      | rw [ih, readWord_keep]

@[simp] theorem takeBits_keep (w : BitVec 24) (s : State) : (takeBits w s).keep = s.keep := by
  unfold takeBits
  dsimp only
  split
  · rw [readBits_keep]
    rfl
  · rfl

@[simp] theorem outputSample_keep (o : OutId) (x : Int) (s : State) : (outputSample o x s).keep = s.keep := by
  unfold outputSample
  dsimp only
  split <;> rfl

theorem mainPeriod_keep (s : State) (rate : Nat) (x : RoleSamples) : (mainPeriod s rate x).1.keep = s.keep := by
  unfold mainPeriod
  dsimp only
  split <;> rfl

@[simp] theorem zonePeriod_keep (rate : Nat) (feed : Feed) (z : ZoneId) (s : State) :
    (zonePeriod rate feed z s).keep = s.keep := by
  unfold zonePeriod
  dsimp only
  rw [keep_setGuard, keep_eachOut]
  · split
    · exact mainPeriod_keep ..
    · rfl
  · intro o t
    split
    · exact outputSample_keep ..
    · rfl
  · rfl
  · rfl

@[simp] theorem samplePeriod_keep (src : Src) (x : RoleSamples) (s : State) : (samplePeriod src x s).keep = s.keep := by
  unfold samplePeriod
  dsimp only
  repeat' split
  all_goals simp [keep_zone, keep_setSrc, keep_setChan, keep_setHeat, keep_setGuard, keep_setFan, keep_setLink, keep_setTun, keep_setKpp, keep_eachZone, keep_eachChan, keep_eachPkg, keep_eachOut, keep_foldl, ZoneRec.settings, ZoneRec.idle, SourceRec.silent, SourceRec.seek, SourceRec.halt, SourceRec.lockPcm, SourceRec.unlockPcm, SourceRec.achieve, SourceRec.fail, SourceRec.retry, SourceRec.setPcm, SourceRec.takeFrame, SourceRec.setCoded, SourceRec.setBroken, TunerRec.opEnded, TunerRec.measure]

@[simp] theorem markChanging_keep (c : ChanId) (s : State) : (markChanging c s).keep = s.keep := by
  have forget : ∀ t : State, (forgetReport c t).keep = t.keep := fun _ => rfl
  unfold markChanging
  dsimp only
  split
  all_goals simp [forget, keep_zone, keep_setSrc, keep_setChan, keep_setHeat, keep_setGuard, keep_setFan, keep_setLink, keep_setTun, keep_setKpp, ZoneRec.settings]

@[simp] theorem takeReassign_hold (r : Tab 11 (Option Assign)) (k : Ticket) (s : State) :
    unassigned (takeReassign r k s).keep = unassigned s.keep := by
  unfold takeReassign
  have base : ((s.eachChan (fun c u => if changes s r c then markChanging c u else u)).eachPkg settlePkg).keep = s.keep := by
    rw [keep_eachPkg _ _ (fun p t => settlePkg_keep p t), keep_eachChan]
    intro c t
    split
    · exact markChanging_keep c t
    · rfl
  generalize h : (s.eachChan (fun c u => if changes s r c then markChanging c u else u)).eachPkg settlePkg = u at base
  simp only [h]
  split
  · rw [keep_reassign, base]
  · rw [swap_hold, keep_reassign, base]

@[simp] theorem takeCheck_keep (c : ChanId) (k : Ticket) (s : State) : (takeCheck c k s).keep = s.keep := by
  unfold takeCheck
  dsimp only
  split
  · rw [startTestStep_keep]
    exact setChanState_keep c .testing none s
  · rw [settlePkg_keep]
    exact setChanState_keep c .testing none s

@[simp] theorem countIgnored_keep (s : State) : (countIgnored s).keep = s.keep := by
  simp [countIgnored, keep_zone, keep_setSrc, keep_setChan, keep_setHeat, keep_setGuard, keep_setFan, keep_setLink, keep_setTun, keep_setKpp, ZoneRec.settings]

@[simp] theorem offerKey_keep (b0 b1 : Byte) (s : State) : (offerKey b0 b1 s).keep = s.keep := by
  simp [offerKey, keep_zone, keep_setSrc, keep_setChan, keep_setHeat, keep_setGuard, keep_setFan, keep_setLink, keep_setTun, keep_setKpp, ZoneRec.settings]

@[simp] theorem selectKeypad_keep (b0 : Byte) (s : State) : (selectKeypad b0 s).keep = s.keep := by
  simp [selectKeypad, keep_zone, keep_setSrc, keep_setChan, keep_setHeat, keep_setGuard, keep_setFan, keep_setLink, keep_setTun, keep_setKpp, ZoneRec.settings]

@[simp] theorem busWrite_keep (bytes : List Byte) (s : State) : (busWrite bytes s).keep = s.keep := by
  unfold busWrite
  repeat' split
  all_goals simp [keep_zone, keep_setSrc, keep_setChan, keep_setHeat, keep_setGuard, keep_setFan, keep_setLink, keep_setTun, keep_setKpp, ZoneRec.settings]

@[simp] theorem busRead_keep (count : Nat) (s : State) : (busRead count s).keep = s.keep := by
  simp [busRead, keep_zone, keep_setSrc, keep_setChan, keep_setHeat, keep_setGuard, keep_setFan, keep_setLink, keep_setTun, keep_setKpp, ZoneRec.settings]

@[simp] theorem setKey_keep (pad : Fin 8) (r : KeyRec) (s : State) : (setKey pad r s).keep = s.keep := by
  simp [setKey, keep_zone, keep_setSrc, keep_setChan, keep_setHeat, keep_setGuard, keep_setFan, keep_setLink, keep_setTun, keep_setKpp, ZoneRec.settings]

@[simp] theorem releaseKey_keep (pad : Fin 8) (s : State) : (releaseKey pad s).keep = s.keep := by
  simp [releaseKey, keep_zone, keep_setSrc, keep_setChan, keep_setHeat, keep_setGuard, keep_setFan, keep_setLink, keep_setTun, keep_setKpp, ZoneRec.settings]

@[simp] theorem softTuner_keep (s : State) : (softTuner s).keep = s.keep := by
  unfold softTuner
  try dsimp only
  repeat' split
  all_goals simp [keep_zone, keep_setSrc, keep_setChan, keep_setHeat, keep_setGuard, keep_setFan, keep_setLink, keep_setTun, keep_setKpp, ZoneRec.settings, ZoneRec.idle, SourceRec.silent, SourceRec.seek, SourceRec.halt, SourceRec.lockPcm, SourceRec.unlockPcm, SourceRec.achieve, SourceRec.fail, SourceRec.retry, SourceRec.setPcm, SourceRec.takeFrame, SourceRec.setCoded, SourceRec.setBroken, TunerRec.opEnded, TunerRec.measure]

@[simp] theorem softStation_keep (s : State) : (softStation s).keep = s.keep := by
  simp [softStation, keep_zone, keep_setSrc, keep_setChan, keep_setHeat, keep_setGuard, keep_setFan, keep_setLink, keep_setTun, keep_setKpp, ZoneRec.settings]

@[simp] theorem softAmp_keep (s : State) : (softAmp s).keep = s.keep := by
  unfold softAmp
  dsimp only
  have parts : ∀ t : State, ({ t with acc := { t.acc with
      channels := t.acc.channels.map ChanRec.softReset
      packages := t.acc.packages.map PkgRec.softReset
      reassign := none } } : State).keep = t.keep := fun t => by
    have : (fun r : ChanRec => (r.assign, r.trim)) ∘ ChanRec.softReset = fun r => (r.assign, r.trim) := by
      funext r
      simp only [Function.comp_apply, ChanRec.softReset]
      split <;> rfl
    simp only [State.keep, State.settings, Tab.map, List.map_map, this]
  rw [parts, dropCheck_keep]
  split
  · rfl
  · exact complete_keep ..

@[simp] theorem softLevels_keep (s : State) : (softLevels s).keep = s.keep := by
  simp [softLevels, keep_zone, keep_setSrc, keep_setChan, keep_setHeat, keep_setGuard, keep_setFan, keep_setLink, keep_setTun, keep_setKpp, keep_eachZone, keep_eachChan, keep_eachPkg, keep_eachOut, keep_foldl, ZoneRec.settings, ZoneRec.idle, SourceRec.silent, SourceRec.seek, SourceRec.halt, SourceRec.lockPcm, SourceRec.unlockPcm, SourceRec.achieve, SourceRec.fail, SourceRec.retry, SourceRec.setPcm, SourceRec.takeFrame, SourceRec.setCoded, SourceRec.setBroken, TunerRec.opEnded, TunerRec.measure]

@[simp] theorem softZone_keep (z : ZoneId) (s : State) : (softZone z s).keep = s.keep := by
  unfold softZone
  try dsimp only
  repeat' split
  all_goals simp [keep_zone, keep_setSrc, keep_setChan, keep_setHeat, keep_setGuard, keep_setFan, keep_setLink, keep_setTun, keep_setKpp, ZoneRec.settings, ZoneRec.idle, SourceRec.silent, SourceRec.seek, SourceRec.halt, SourceRec.lockPcm, SourceRec.unlockPcm, SourceRec.achieve, SourceRec.fail, SourceRec.retry, SourceRec.setPcm, SourceRec.takeFrame, SourceRec.setCoded, SourceRec.setBroken, TunerRec.opEnded, TunerRec.measure]

@[simp] theorem softZones_keep (s : State) : (softZones s).keep = s.keep := by
  apply keep_eachZone
  intro c t
  simp

@[simp] theorem softSources_keep (s : State) : (softSources s).keep = s.keep := by
  apply keep_foldl
  intro x t
  rw [State.updSrc_eq, keep_setSrc]
  unfold SourceRec.softReset
  split <;> rfl

@[simp] theorem softEngines_keep (s : State) : (softEngines s).keep = s.keep := rfl

@[simp] theorem softKeypads_keep (s : State) : (softKeypads s).keep = s.keep := by
  simp [softKeypads, keep_zone, keep_setSrc, keep_setChan, keep_setHeat, keep_setGuard, keep_setFan, keep_setLink, keep_setTun, keep_setKpp, ZoneRec.settings]

@[simp] theorem softBlocks_keep (s : State) : (softBlocks s).keep = s.keep := by
  simp [softBlocks, keep_zone, keep_setSrc, keep_setChan, keep_setHeat, keep_setGuard, keep_setFan, keep_setLink, keep_setTun, keep_setKpp, ZoneRec.settings]

theorem setPhases_mask (ph : Phase) (l : List (Fin 8)) (r : LinkRec) : (setPhases ph l r).mask = r.mask := by
  unfold setPhases
  induction l generalizing r with
  | nil => rfl
  | cons i l ih => rw [List.foldl_cons, ih]

theorem setPhases_attention (ph : Phase) (l : List (Fin 8)) (r : LinkRec) : (setPhases ph l r).attention = r.attention := by
  unfold setPhases
  induction l generalizing r with
  | nil => rfl
  | cons i l ih => rw [List.foldl_cons, ih]

@[simp] theorem claim_keep (h : ReqHead) (s : State) : (claim h s).keep = s.keep :=
  keep_setLink s h.link _ (setPhases_mask ..) (setPhases_attention ..)

@[simp] theorem refuseTake_keep (h : ReqHead) (kind : Byte) (st rest : Status) (s : State) : (refuseTake h kind st rest s).keep = s.keep := by
  simp [refuseTake, keep_zone, keep_setSrc, keep_setChan, keep_setHeat, keep_setGuard, keep_setFan, keep_setLink, keep_setTun, keep_setKpp, ZoneRec.settings]

@[simp] theorem takeOrphan_keep (l : Link) (rcd : List Byte) (s : State) : (takeOrphan l rcd s).keep = s.keep := by
  simp [takeOrphan, keep_zone, keep_setSrc, keep_setChan, keep_setHeat, keep_setGuard, keep_setFan, keep_setLink, keep_setTun, keep_setKpp, ZoneRec.settings]

@[simp] theorem present_keep (h : ReqHead) (kind : Byte) (data : List Byte) (s : State) :
    (present h kind data s).keep = s.keep := by
  unfold present
  have both : ∀ (l : List Nat) (r q : LinkRec),
      (l.foldl (fun (q : LinkRec) k => { q with slots := q.slots.set (slotAfter r.take k) ⟨.queued, requestRecord h kind data k⟩ }) q).mask
          = q.mask ∧
        (l.foldl (fun (q : LinkRec) k => { q with slots := q.slots.set (slotAfter r.take k) ⟨.queued, requestRecord h kind data k⟩ })
          q).attention = q.attention := by
    intro l r
    induction l with
    | nil => exact fun q => ⟨rfl, rfl⟩
    | cons k l ih => exact fun q => ih _
  exact keep_setLink s h.link _ (both _ _ _).1 (both _ _ _).2

@[simp] theorem endFrame_keep (l : Link) (o : FrameOutcome) (out : List Byte) (s : State) : (endFrame l o out s).keep = s.keep := by
  simp [endFrame, keep_zone, keep_setSrc, keep_setChan, keep_setHeat, keep_setGuard, keep_setFan, keep_setLink, keep_setTun, keep_setKpp, ZoneRec.settings]

@[simp] theorem rejectFrame_keep (l : Link) (o : FrameOutcome) (s : State) : (rejectFrame l o s).keep = s.keep := by
  simp [rejectFrame, keep_zone, keep_setSrc, keep_setChan, keep_setHeat, keep_setGuard, keep_setFan, keep_setLink, keep_setTun, keep_setKpp, ZoneRec.settings]

@[simp] theorem readSlotFrame_keep (l : Link) (arg : Byte) (s : State) : (readSlotFrame l arg s).keep = s.keep := by
  simp [readSlotFrame, keep_zone, keep_setSrc, keep_setChan, keep_setHeat, keep_setGuard, keep_setFan, keep_setLink, keep_setTun, keep_setKpp, ZoneRec.settings]

theorem readShift_keeps (r : LinkRec) (n : Nat) : (r.readShift n).mask = r.mask ∧ (r.readShift n).attention = r.attention := by
  unfold LinkRec.readShift
  split <;> exact ⟨rfl, rfl⟩

theorem readClose_keeps (r : LinkRec) (o : FrameOutcome) :
    (r.readClose o).mask = r.mask ∧ (r.readClose o).attention = r.attention := by
  unfold LinkRec.readClose
  split <;> exact ⟨rfl, rfl⟩

@[simp] theorem readNoticesFrame_keep (l : Link) (arg : Byte) (part : ReadPart) (s : State) :
    (readNoticesFrame l arg part s).keep = s.keep := by
  unfold readNoticesFrame
  split
  · split
    · simp
    · simp only [LinkRec.readWhole_eq]
      exact keep_setLink s l _ rfl rfl
  · split
    · simp
    · exact keep_setLink s l _ rfl rfl
  · exact keep_setLink s l _ (readShift_keeps ..).1 (readShift_keeps ..).2
  · exact keep_setLink s l _ (readClose_keeps ..).1 (readClose_keeps ..).2

@[simp] theorem readLinkFrame_keep (l : Link) (arg : Byte) (s : State) : (readLinkFrame l arg s).keep = s.keep := by
  simp [readLinkFrame, keep_zone, keep_setSrc, keep_setChan, keep_setHeat, keep_setGuard, keep_setFan, keep_setLink, keep_setTun, keep_setKpp, ZoneRec.settings]

@[simp] theorem stallFrame_keep (l : Link) (f : StalledFrame) (s : State) : (stallFrame l f s).keep = s.keep := by
  unfold stallFrame
  split
  · exact keep_setLink s l _ rfl rfl
  · exact keep_setLink s l _ rfl rfl
  · split
    · simp
    · simp only [LinkRec.readWhole_eq]
      exact keep_setLink s l _ rfl rfl
  · exact keep_setLink s l _ (readClose_keeps ..).1 (readClose_keeps ..).2

@[simp] theorem badFrame_keep (l : Link) (code arg : Byte) (s : State) : (badFrame l code arg s).keep = s.keep := by
  simp [badFrame, keep_zone, keep_setSrc, keep_setChan, keep_setHeat, keep_setGuard, keep_setFan, keep_setLink, keep_setTun, keep_setKpp, ZoneRec.settings]

@[simp] theorem linkResetFrame_keep (l : Link) (arg : Byte) (s : State) : (linkResetFrame l arg s).keep = s.keep := by
  unfold linkResetFrame
  split
  · simp
  · rw [State.updLink_eq, keep_setLink, endFrame_keep] <;> rfl

@[simp] theorem tick_keep (s : State) : s.tick.keep = s.keep := by
  unfold State.tick
  simp only [State.keep, State.settings, Tab.map, List.map_map]
  rfl

end Sys2Proof.Machine
end

