-- ==== Sys2Proof/Laws/Levels.lean ====
section
/-! SUPPORT. What a pass over all seventeen outputs leaves: a table of level records given output by output (R73, R75, R76). -/
namespace Sys2Proof.Machine

/-- Every index of the output table is an output's. -/
theorem OutId.idx_surj (i : Fin 17) : ∃ o : OutId, o.idx = i := by
  have h : i ∈ OutId.all.map OutId.idx := by
    revert i
    decide
  obtain ⟨o, _, e⟩ := List.mem_map.mp h
  exact ⟨o, e⟩

@[simp] theorem State.withLevels_lev (s : State) (f : OutId → LevelRec) (o : OutId) : (s.withLevels f).lev o = f o := by
  have size : o.idx.val < (OutId.all.map f).length := o.idx.isLt
  have e : (OutId.all.map f)[o.idx.val]'size = f o := by
    rw [List.getElem_map]
    congr 1
    exact Option.some.inj ((List.getElem?_eq_getElem _).symm.trans (OutId.get_all o))
  exact e

/-- Two states that differ in level records alone, and in none of those, are the same. -/
theorem State.ext_levels (s : State) (a b : Tab 17 LevelRec) (h : ∀ o : OutId, a.get o.idx = b.get o.idx) :
    ({ s with lvu := { s.lvu with levels := a } } : State) = { s with lvu := { s.lvu with levels := b } } := by
  have : a = b := Tab.ext_get (fun i => by
    obtain ⟨o, rfl⟩ := OutId.idx_surj i
    exact h o)
  rw [this]

/-- A pass over a list of outputs, each of which has its own record written from what the others do not change. -/
theorem foldl_levels (f : OutId → State → State) (g : State → OutId → LevelRec) (hf : ∀ o t, f o t = t.setLev o (g t o))
    (hg : ∀ (t : State) (o p : OutId) (r : LevelRec), o ≠ p → g (t.setLev p r) o = g t o) (l : List OutId) (d : l.Nodup) (s : State) :
    ∃ a : Tab 17 LevelRec, l.foldl (fun t o => f o t) s = { s with lvu := { s.lvu with levels := a } } ∧
      ∀ o : OutId, a.get o.idx = if o ∈ l then g s o else s.lev o := by
  induction l generalizing s with
  | nil => exact ⟨s.lvu.levels, rfl, fun o => by simp [State.lev]⟩
  | cons p l ih =>
    obtain ⟨hp, d'⟩ := List.nodup_cons.mp d
    obtain ⟨a, ha, hget⟩ := ih d' (s.setLev p (g s p))
    refine ⟨a, ?_, fun o => ?_⟩
    · rw [List.foldl_cons, hf, ha]
      rfl
    · rw [hget]
      by_cases e : o = p
      · rw [e, if_neg hp, if_pos List.mem_cons_self, State.setLev_lev_self]
      · rw [hg s o p _ e, State.setLev_lev_ne _ _ _ _ e]
        simp [List.mem_cons, e]

/-- **A pass over every output** writes the level records and nothing else. -/
theorem eachOut_eq (f : OutId → State → State) (g : State → OutId → LevelRec) (hf : ∀ o t, f o t = t.setLev o (g t o))
    (hg : ∀ (t : State) (o p : OutId) (r : LevelRec), o ≠ p → g (t.setLev p r) o = g t o) (s : State) :
    s.eachOut f = s.withLevels (g s) := by
  obtain ⟨a, ha, hget⟩ := foldl_levels f g hf hg OutId.all (by decide) s
  refine ha.trans (State.ext_levels s a _ (fun o => ?_))
  rw [hget, if_pos (OutId.mem_all o)]
  exact (State.withLevels_lev s (g s) o).symm

/-- A bound cut of one output (R73). -/
theorem boundCut_eq (o : OutId) (s : State) : boundCut o s = s.setLev o (cutLevel s o) := by
  unfold boundCut cutLevel
  cases limitLevel s o with
  | none => exact (State.setLev_lev_same s o).symm
  | some m =>
    dsimp only
    split
    · rfl
    · exact (State.setLev_lev_same s o).symm

/-- Bound cuts of the outputs that a predicate picks (R73). -/
theorem boundCuts_eq (p : OutId → Bool) (s : State) :
    boundCuts p s = s.withLevels (fun o => if p o then cutLevel s o else s.lev o) := by
  refine eachOut_eq _ (fun t o => if p o then cutLevel t o else t.lev o) (fun o t => ?_) (fun t o q r h => ?_) s
  · split
    · exact boundCut_eq o t
    · exact (State.setLev_lev_same t o).symm
  · have : (t.setLev q r).lev o = t.lev o := State.setLev_lev_ne _ _ _ _ h
    unfold cutLevel
    rw [this]
    rfl

/-- A snap of a zone's outputs (R76). -/
theorem snapZone_eq (z : ZoneId) (s : State) :
    snapZone z s = s.withLevels (fun o => if outZone s o = some z then (s.lev o).floored else s.lev o) := by
  refine eachOut_eq _ (fun t o => if outZone s o = some z then (t.lev o).floored else t.lev o) (fun o t => ?_) (fun t o q r h => ?_) s
  · split
    · rfl
    · exact (State.setLev_lev_same t o).symm
  · rw [State.setLev_lev_ne _ _ _ _ h]

/-- The clip counts of a zone's outputs cleared (R80). -/
theorem clearZoneClips_eq (z : ZoneId) (s : State) :
    s.eachOut (fun o t => if outZone s o = some z then clearClips o t else t) =
      s.withLevels (fun o => if outZone s o = some z then { s.lev o with clips := 0, clipFlag := false } else s.lev o) := by
  refine eachOut_eq _ (fun t o => if outZone s o = some z then { t.lev o with clips := 0, clipFlag := false } else t.lev o)
    (fun o t => ?_) (fun t o q r h => ?_) s
  · split
    · rfl
    · exact (State.setLev_lev_same t o).symm
  · rw [State.setLev_lev_ne _ _ _ _ h]

/-- A ramp step's pass over the outputs (R75). -/
theorem rampAll_eq (s : State) :
    s.eachOut rampOut = s.withLevels (fun o =>
      { s.lev o with target := targetLevel s o, level := rampedLevel s o, gain := gainFor s o (rampedLevel s o) }) := by
  refine eachOut_eq _ (fun t o =>
    { t.lev o with target := targetLevel t o, level := rampedLevel t o, gain := gainFor t o (rampedLevel t o) })
    (fun o t => rfl) (fun t o q r h => ?_) s
  have e : (t.setLev q r).lev o = t.lev o := State.setLev_lev_ne _ _ _ _ h
  have k : rampedLevel (t.setLev q r) o = rampedLevel t o := by
    unfold rampedLevel
    rw [e]
    rfl
  rw [e, k]
  rfl

end Sys2Proof.Machine
end

