-- ==== Sys2Proof/Tests/Slice0.lean ====
section
/-! SUPPORT. Tests: ill-formed commands, states that meet the hypotheses of the statements, and small runs of single commands.

An expected value comes from the rule a test names.
-/
namespace Sys2Proof.Tests

open Sys2Proof.Machine

/-- A one-slot request of Link S with a target byte. -/
def fromS (target : Byte) : ReqHead := ⟨.s, 0x11, target, false, 1⟩

/-- A request of Link S in a chain of some slots. -/
def chainS (slots : Nat) (target : Byte) : ReqHead := ⟨.s, 0x11, target, false, slots⟩

/-- A one-slot request of Link N with a target byte. -/
def fromN (target : Byte) : ReqHead := ⟨.n, 0x22, target, true, 1⟩

/-- A command completes, and the state after it passes a check. -/
def after (c : Instr) (s : State) (p : State → Bool) : Bool :=
  match exec c s with
  | .next t => p t
  | _ => false

/-- A command completes and leaves the state as it was. -/
def idle (c : Instr) (s : State) : Bool := after c s (fun t => t == s)

/-- The result slot at index 0 of Link S. -/
def slot0 (s : State) : List Byte := ((s.link .s).slots.get 0).record

/-- A zone in a state, its power ON. -/
def withZone (z : ZoneId) (st : ZoneState) (s : State) : State :=
  s.updZone z (fun r => { r with power := .on, state := st })

/-- A channel in a state. -/
def withChan (c : ChanId) (st : ChanState) (s : State) : State := s.updChan c (fun r => { r with state := st })

/-- A package in a power state. -/
def withPkg (p : PkgId) (st : PkgPower) (s : State) : State := s.updPkg p (fun r => { r with power := st })

/-- A source with its lock in a state. -/
def withLock (x : Src) (st : LockState) (s : State) : State := s.updSrc x (fun r => { r with lock := st })

/-- The state after some commands, where all of them complete. -/
def afterAll : List Instr → State → State
  | [], s => s
  | c :: l, s => match exec c s with
    | .next t => afterAll l t
    | _ => s

/-! ## WellFormed refuses -/

theorem test_wf_head : (Instr.zonePowerOn ⟨.s, 0, 0, false, 9⟩).wf = false ∧ (Instr.lineCheck ⟨.s, 0, 0, false, 0⟩).wf = false := by
  decide
theorem test_wf_source : (Instr.zoneSource (fromS 0) 256).wf = false := by decide
theorem test_wf_volume : (Instr.zoneVolume (fromS 0) (.absolute 32768)).wf = false ∧
    (Instr.zoneVolume (fromS 0) (.relative (-32769))).wf = false := by decide
theorem test_wf_sleep : (Instr.zoneSleep (fromS 0) 256).wf = false := by decide
theorem test_wf_announce : (Instr.zoneAnnounce (fromS 0) true 40000).wf = false := by decide
theorem test_wf_pages : (Instr.zoneQuery (fromS 0) 256).wf = false ∧ (Instr.sourceQuery (fromS 1) 256).wf = false ∧
    (Instr.engineQuery (fromS 0) 256).wf = false ∧ (Instr.levelQuery (fromS 0) 256).wf = false ∧
    (Instr.ampQuery (fromS 0) 256).wf = false ∧ (Instr.protQuery (fromS 0) 256).wf = false ∧
    (Instr.fanQuery (fromS 0) 256).wf = false ∧ (Instr.presetRead (fromS 0) 256).wf = false ∧
    (Instr.stationRead (fromS 0) 0 256).wf = false ∧ (Instr.tunerQuery (fromS 0) 256).wf = false ∧
    (Instr.stationDataQuery (fromS 0) 256).wf = false ∧ (Instr.keypadQuery (fromS 0) 256).wf = false := by decide
theorem test_wf_limits : (Instr.zoneLimits (fromS 0) 128 2 false).wf = false ∧ (Instr.zoneLimits (fromS 0) 0 256 false).wf = false := by
  decide
theorem test_wf_ring : (Instr.zoneSourceRing (fromS 0) [1, 256]).wf = false := by decide
theorem test_wf_trims : (Instr.sourceTrim (fromS 1) 128).wf = false ∧ (Instr.channelTrim (fromS 0) (-129)).wf = false ∧
    (Instr.dialogue (fromS 0) (-1)).wf = false ∧ (Instr.mainMode (fromS 0) 256).wf = false := by decide
theorem test_wf_mapper : (Instr.bassConfig (fromS 0) ⟨0, 0, 0, 0, 0, 256, true⟩).wf = false ∧
    (Instr.downmixConfig (fromS 0) ⟨0, 0, 0, 256, true⟩).wf = false := by decide
theorem test_wf_assign : (Instr.ampAssign (fromS 0) [⟨0, some (255, 0)⟩]).wf = false ∧
    (Instr.ampAssign (fromS 0) [⟨256, none⟩]).wf = false := by decide
theorem test_wf_protection : (Instr.protLimits (fromS 0) { limitsReset with railHyst := 256 }).wf = false ∧
    (Instr.clipGuard (fromS 0) 65536).wf = false ∧
    (Instr.fanCurve (fromS 0) { fanSettingsReset ⟨true, true, false, false, false⟩ with tachLimit := 65536 }).wf = false := by decide
theorem test_wf_tuner : (Instr.tunerTune (fromS 0) 256 0).wf = false ∧ (Instr.tunerSeek (fromS 0) 256).wf = false ∧
    (Instr.tunerScan (fromS 0) 0 0 65536 false).wf = false ∧ (Instr.tunerRegion (fromS 0) 256 9).wf = false ∧
    (Instr.tunerThresholds (fromS 0) 0 256).wf = false ∧
    (Instr.presetUpload (fromS 0) [⟨0, some (0, 65536, none)⟩]).wf = false ∧
    (Instr.presetUpload (fromS 0) (List.replicate 9 ⟨0, none⟩)).wf = false := by decide
theorem test_wf_keypads : (Instr.keypadBind (fromS 0) 256 0).wf = false ∧ (Instr.keymapLoad (fromS 0) 0 2 [⟨0, 0⟩]).wf = false ∧
    (Instr.keymapLoad (fromS 0) 0 1 [⟨0, 256⟩]).wf = false ∧ (Instr.keyMessage 0x08 0).wf = false ∧ (Instr.select 0x07).wf = false ∧
    (Instr.malformedKeypadWrite []).wf = false ∧ (Instr.malformedKeypadWrite [0x80]).wf = false ∧
    (Instr.malformedKeypadWrite [0x07, 0xFF]).wf = false := by decide
theorem test_wf_links : (Instr.linkPermit (fromS 0) 256 ⟨true, true, true, true, false, false⟩).wf = false ∧
    (Instr.unknownRequestKind (fromS 0) 0x30).wf = false ∧ (Instr.continuation ⟨.s, 0, 0, false, 2⟩).wf = false ∧
    (Instr.writeSlot .s 0 (List.replicate 17 0) false).wf = false ∧ (Instr.readNotices .s 1 (.whole 131)).wf = false ∧
    (Instr.badFrame .s 3 8).wf = false ∧ (Instr.frameStall .s (.readNotices 1 131)).wf = false := by decide
theorem test_wf_events : (Instr.codedFrame .din0 ⟨some .a, 10, 11, some .r48, .empty, true, 0⟩).wf = false ∧
    (Instr.samplingTimer ⟨512, 0, 0, 0, 0, 0⟩).wf = false ∧ (Instr.overcurrent .ac0 1024).wf = false ∧
    (Instr.lineCheckCrossing 1024).wf = false ∧ (Instr.tachEdge .f0 65536).wf = false ∧ (Instr.dwellEnd 101 false).wf = false ∧
    (Instr.qualityMonitor 101 false).wf = false ∧
    (Instr.samplePeriod .tuner ⟨8388608, 0, 0, 0, 0, 0, 0, 0, 0, 0⟩).wf = false := by decide

/-- No word of the table spells a command, since the table gives no bits. -/
theorem test_no_word_spells_a_command : decodeTableWord 8 0 = none ∧ State.reset.withFetchWord 16 0x1234 = State.reset := by decide

/-! ## States that meet the hypotheses of the statements

A request of Link S at its empty ring arrives at reset; the clauses of a statement are met at the values where they meet.
-/

/-- Every kind a statement follows arrives from Link S at reset. -/
theorem witness_arrives :
    ((List.range 48).map (fun k => BitVec.ofNat 8 (k + 1))).all (fun k => arrives (fromS 0) k State.reset) = true := by decide

/-- Every kind with a chain arrives in the slots its data take. -/
theorem witness_chains_arrive : [(0x09, 2), (0x13, 3), (0x16, 2), (0x1B, 2), (0x28, 8), (0x2F, 8)].all
    (fun (k, n) => arrives (chainS n 0) (BitVec.ofNat 8 k) State.reset) = true := by decide

/-- Kinds from Link N under its power-on permissions (R190). -/
theorem witness_arrives_from_n : arrives (fromN 2) 0x03 State.reset = true ∧ arrives (fromN 0) 0x1D State.reset = true ∧
    arrives (fromN 0) 0x2C State.reset = true ∧ arrives (fromN 0) 0x0A State.reset = false := by decide

theorem witness_IdleStep : State.reset.pending = [] := by decide

/-- Link S stopped by a SOFT_RESET in flight. -/
def resetting : State := { State.reset with lnk := { State.reset.lnk with resetting := some (ticketAt (State.reset.link .s) (fromS 0) 0x2D) } }

theorem witness_RefusedSlots : requestOf (.zoneVolume (fromS 0) (.absolute 0)) = some (fromS 0, reqZoneVolume (fromS 0) (.absolute 0)) := rfl

theorem witness_RefusedSlots_gates : ringReady resetting (fromS 0) = false ∧ ringReady State.reset (fromS 0) = true ∧
    nextIdle State.reset { fromS 0 with slots := 2 } = true ∧ (catalogue 0x03).map Line.chain = some 1 ∧
    (catalogue 0x28).map Line.chain = some 8 := by decide

theorem witness_RefusedSlots_checks :
    checkFails State.reset (fromN 0) ⟨.sOnly, true, 1⟩ = some .noPermission ∧
    checkFails State.reset (fromS 3) ⟨.zone, true, 1⟩ = some .badZone ∧ checkFails State.reset (fromS 2) ⟨.zone, true, 1⟩ = none ∧
    checkFails State.reset (fromN 0) ⟨.protectClear, false, 1⟩ = some .noPermission := by decide

theorem witness_RefusedSlots_kinds : catalogue 0x31 = none ∧ catalogue 0x00 = none ∧ catalogue 0xFE = none ∧ catalogue 0xFF = none ∧
    ringReady State.reset (fromS 0) = true ∧ nextIdle State.reset (fromS 0) = true := by decide

/-- A ticket of Link S for a tune taken in slot 0. -/
def tuneTicket : Ticket := ticketAt (State.reset.link .s) (fromS 0) 0x1D

theorem witness_Completion : 1 ≤ tuneTicket.slots ∧ tuneTicket.slots ≤ 8 ∧ 1 ≤ { tuneTicket with slots := 8 }.slots ∧
    { tuneTicket with slots := 8 }.slots ≤ 8 ∧ { tuneTicket with slots := 8 }.slot = 0 ∧ (State.reset.link .s).gen = tuneTicket.gen ∧
    (State.reset.link .s).gen ≠ { tuneTicket with gen := 1 }.gen := by decide

theorem witness_FramesAreJudged : (0x08 : Byte).toNat / 8 % 16 ≠ 0 ∧ (0x87 : Byte).toNat / 8 % 16 = 0 ∧
    linkOwned (State.reset.link .s) (slotIndex 0x87) = true ∧ (List.replicate 15 (0 : Byte)).length < 16 ∧
    handFlag 0x07 = false ∧ handFlag 0x87 = true ∧ slotIndex 0x87 ≠ (State.reset.link .s).take ∧
    resetting.lnk.resetting.isSome = true ∧
    ((State.reset.link .s).slots.get (State.reset.link .s).take).phase ≠ .queued := by decide

theorem witness_BadFrames : (0 : Byte).toNat = 0 ∧ 5 < (6 : Byte).toNat ∧ 7 < (8 : Byte).toNat ∧ 8 < (9 : Byte).toNat ∧
    (1 : Byte) ≠ 0 := by decide

/-- A READ_NOTICES under way on Link S, and none at reset; numbers wanted at the ends of their range. -/
theorem witness_ReadNotices : (((State.reset.link .s).readOpen 8).reading.map NoticeRead.shifted) = some 0 ∧
    (State.reset.link .s).reading = none ∧ badWanted 0 = true ∧ badWanted 1 = false ∧ badWanted 8 = false ∧ badWanted 9 = true := by decide

/-- Data that just fit their slots and data that do not (R189). -/
theorem witness_ChainShort : dataFits 1 (listData u8 (List.range 10)) = true ∧ dataFits 1 (listData u8 (List.range 11)) = false ∧
    dataFits 2 (limitsData limitsReset) = true ∧ dataFits 1 (limitsData limitsReset) = false ∧
    dataFits 2 (fanData (State.reset.fan .f0).set) = true ∧ dataFits 1 (fanData (State.reset.fan .f0).set) = false ∧
    dataFits 1 (uploadData [⟨0, none⟩]) = true ∧ dataFits 1 (uploadData [⟨0, none⟩, ⟨1, none⟩]) = false := by decide

theorem witness_WrittenVolume : (List.replicate 8 (0 : Byte)).length = 8 ∧ ringReady State.reset ⟨.s, 7, 0, true, 1⟩ = true ∧
    nextIdle State.reset ⟨.s, 7, 0, true, 1⟩ = true := by decide

/-- Chain heads at the edges of a count and of a kind's maximum (R188). -/
theorem witness_ChainHeads : (List.replicate 11 (0 : Byte)).length = 11 ∧ (1 : Byte).getLsbD 0 = true ∧ catalogue 0x31 = none ∧
    (catalogue 0x03).map Line.chain = some 1 ∧ (catalogue 0x2F).map Line.chain = some 8 ∧ (1 : Byte).toNat < 2 ∧
    8 < (9 : Byte).toNat ∧ ringReady State.reset ⟨.s, 7, 0, false, 1⟩ = true ∧ nextIdle State.reset ⟨.s, 7, 0, false, 1⟩ = true := by decide

/-- A source ring of eleven ids in two slots, and a request that may cut it short. -/
def writtenRing : Instr := .zoneSourceRing (chainS 2 0) (List.range 11)

theorem witness_Written_request : requestOf writtenRing = some (chainS 2 0, reqZoneSourceRing (chainS 2 0) (List.range 11)) ∧
    requestOf (.zoneMute (fromS 1) .on) = some (fromS 1, reqZoneMute (fromS 1) .on) := ⟨rfl, rfl⟩

theorem witness_Written : writtenRing.wf = true ∧ dataFits 2 (listData u8 (List.range 11)) = true ∧
    (Instr.zoneMute (fromS 1) .on).wf = true ∧ dataFits 1 (muteData .on) = true ∧ (fromS 1).link = (chainS 2 0).link ∧
    (catalogue 0x09).map Line.chain = some 2 ∧ ringReady State.reset (chainS 2 0) = true ∧ 0 < (chainS 2 0).slots - 1 := by decide

theorem witness_SoftResetDone : resetting.lnk.resetting.isSome = true ∧ State.reset.lnk.resetting = none ∧
    (∀ l ∈ [Link.s, Link.n], ((resetting.link l).slots.get (resetting.link l).take).phase ≠ .queued) := by decide

theorem witness_zone_codes : zoneOfCode (fromS 0).target.toNat = some .main ∧ zoneOfCode (fromS 2).target.toNat = some .z3 ∧
    zoneOfCode (fromS 3).target.toNat = none := by decide

theorem witness_Ring : [1, 11] = [Src.din0, Src.net].map Src.id ∧ 1 ≤ [Src.din0].length ∧ Src.all.length ≤ 11 ∧ Src.all.Nodup ∧
    11 < (List.replicate 12 1).length ∧ ¬ [1, 1].Nodup ∧ (∃ n ∈ [12], n = 0 ∨ 11 < n) := by decide

/-- MAIN with a sleep of some minutes loaded, in a state. -/
def sleeping (minutes : Nat) (st : ZoneState) : State :=
  (withZone .main st State.reset).updZone .main (fun r => { r with sleep := some ⟨minutes, 59999⟩ })

theorem witness_Sleep : (State.reset.zone .main).sleep = none ∧ ((sleeping 2 .playing).zone .main).sleep = some ⟨2, 59999⟩ ∧
    ((sleeping 1 .switching).zone .main).sleep = some ⟨1, 59999⟩ ∧ ((sleeping 1 .acquiring).zone .main).state = .acquiring := by decide

/-- MAIN draining toward standby. -/
def draining : State := State.reset.updZone .main (fun r => { r with state := .switching, standbyFlag := true, switchOrigin := some .s })

theorem witness_PowerOn : ((withZone .main .playing State.reset).zone .main).power = .on ∧ (State.reset.zone .main).power = .standby ∧
    (State.reset.zone .main).state = .standby ∧ anyOut State.reset = false ∧ (draining.zone .main).power = .standby ∧
    (draining.zone .main).state = .switching ∧ (draining.zone .main).standbyFlag = true := by decide

/-- MAIN in STANDBY on ANA0, which holds a pair or none, while other analog sources hold some. -/
def analogRoom (own a b : Option PairId) : State :=
  let s := State.reset.updZone .main (fun r => { r with source := .ana0 })
  ((s.updSrc .ana0 (fun r => { r with pair := own })).updSrc .ana1 (fun r => { r with pair := a })).updSrc .ana2 (fun r => { r with pair := b })

/-- MAIN in STANDBY on DIN0 with a coded stream, the engines in some states, one of them perhaps bound to DIN0. -/
def codedRoom (bound : Option EngineId) (a b : EngineState) : State :=
  let s := (State.reset.updZone .main (fun r => { r with source := .din0 })).updSrc .din0
    (fun r => { r with lock := .locked, format := .codedA, rate := some .r48, engine := bound })
  (s.updEng .de0 (fun r => { r with state := a })).updEng .de1 (fun r => { r with state := b })

theorem witness_Acquisition : [analogRoom none none none, analogRoom (some .cv1) none none, analogRoom none (some .cv0) none,
      analogRoom none (some .cv0) (some .cv1), codedRoom none .free .free, codedRoom none .running .free,
      codedRoom none .running .loading, codedRoom (some .de1) .free .running].all
      (fun s => arrives (fromS 0) 0x01 s && (s.zone .main).power == .standby && (s.zone .main).state == .standby &&
        (s.zone .main).engine == none && (s.zone .main).pair == none && !s.zc.convWait.contains .main) = true ∧
    pairHolder (analogRoom none none none) .cv0 = none ∧ pairHolder (analogRoom none (some .cv0) none) .cv0 ≠ none ∧
    pairHolder (analogRoom none (some .cv0) none) .cv1 = none ∧ pairHolder (analogRoom none (some .cv0) (some .cv1)) .cv1 ≠ none ∧
    ((analogRoom none none none).src .ana0).lock ≠ .lost ∧ ((codedRoom none .free .free).src .din0).lock = .locked := by decide

theorem witness_PowerStandby : (State.reset.zone .main).sleep = none ∧ (sleeping 1 .playing |>.zone .main).state = .playing ∧
    (sleeping 1 .switching |>.zone .main).state = .switching := by decide

theorem witness_Source : srcOfId 0 = none ∧ srcOfId 1 = some .din0 ∧ srcOfId 11 = some .net ∧ srcOfId 12 = none ∧
    (draining.zone .main).standbyFlag = true ∧
    (∀ st ∈ [ZoneState.standby, .switching, .acquiring, .playing], ((withZone .z2 st State.reset).zone .z2).state = st) := by decide

/-- MAIN at the end of a drain toward a source, or toward standby where there is none. -/
def drained (pending : Option Src) : State :=
  let s := State.reset.updZone .main (fun r => { r with state := .switching, standbyFlag := pending.isNone, pending := pending })
  { s with zc := { s.zc with floorReport := ⟨true, false, false⟩ } }

theorem witness_DrainEnd : ((drained none).zone .main).standbyFlag = true ∧ ((drained (some .ana0)).zone .main).pending = some .ana0 ∧
    (drained none).zc.floorReport.has .main = true ∧ State.reset.zc.floorReport.has .main = false := by decide

/-- MAIN at the end of its drain toward STANDBY, alone on ANA0 with CV0, or with Z2; Z2 and Z3 may wait for ANA1's pair. -/
def pairFreed (alone : Bool) (waiting : List ZoneId) : State :=
  let s := ((drained none).updZone .main (fun r => { r with source := .ana0, pair := some .cv0 })).updSrc .ana0
    (fun r => { r.lockPcm with pair := some .cv0, listeners := ⟨true, !alone, false⟩ })
  let t := waiting.foldl (fun t z => (withZone z .acquiring t).updZone z (fun r => { r with source := .ana1, wait := some .converter })) s
  { t with zc := { t.zc with convWait := waiting } }

/-- MAIN at the end of its drain toward STANDBY, alone on DIN0 with DE0, or with Z3; Z2 may wait for an engine for NET. -/
def engineFreed (alone : Bool) (waiting : List ZoneId) : State :=
  let s := ((drained none).updZone .main (fun r => { r with source := .din0, engine := some .de0 })).updEng .de0
    (fun r => { r with state := .running, bound := some .din0, consumers := ⟨true, false, !alone⟩ })
  let t := s.updSrc .net (fun r => { r with lock := .locked, format := .codedB, rate := some .r44 })
  let u := waiting.foldl (fun t z => (withZone z .acquiring t).updZone z (fun r => { r with source := .net, wait := some .decoder })) t
  { u with de := { u.de with wait := waiting } }

theorem witness_Release : [pairFreed true [], pairFreed true [.z3, .z2], pairFreed false [.z3], engineFreed true [], engineFreed true [.z2],
      engineFreed false [.z2]].all
      (fun s => (s.zone .main).state == .switching && s.zc.floorReport.has .main && (s.zone .main).standbyFlag) = true ∧
    ((pairFreed true []).src .ana0).pair = some .cv0 ∧ ((pairFreed true []).zone .main).engine = none ∧
    ((pairFreed true []).src .ana0).listeners.put .main false = .empty ∧
    ((pairFreed false []).src .ana0).listeners.put .main false ≠ .empty ∧
    ((engineFreed true [.z2]).zone .main).engine = some .de0 ∧ ((engineFreed true [.z2]).src .din0).pair = none ∧
    (engineFreed true [.z2]).de.wait.find? (fun w => needsEngine (engineFreed true [.z2]) w) = some .z2 ∧
    ((engineFreed true [.z2]).src .net).rate = some .r44 ∧ ((engineFreed true [.z2]).zone .z2).state = .acquiring := by decide

theorem witness_GrantsJudged : GrantsJudged (engineFreed true [.z2]) ∧ GrantsJudged (pairFreed true [.z3]) ∧
    ((pairFreed true [.z3]).zone .z3).wait = some .converter ∧
    (match step { pairFreed true [.z3] with pending := [.drainEnd .main] } with | .next _ => true | _ => false) = true := by
  refine ⟨fun z => ?_, fun z => ?_, by decide, by decide⟩ <;> cases z <;> decide

theorem witness_Trims : srcOfId (fromS 11).target.toNat = some .net ∧ srcOfId (fromS 12).target.toNat = none ∧
    outOfCode (fromS 16).target.toNat = some (.line .z3r) ∧ outOfCode (fromS 17).target.toNat = none ∧
    outOfCode (fromS 10).target.toNat = some (.ac .ac10) := by decide

/-- DIN0 in the attempt after some failed ones. -/
def seeking (n : Nat) : State := (withLock .din0 .seeking State.reset).updSrc .din0 (fun r => { r with attempts := n, seqTimer := some 0 })

theorem witness_Attempts : ((seeking 14).src .din0).attempts + 1 < 16 ∧ ¬ ((seeking 15).src .din0).attempts + 1 < 16 ∧
    ((withLock .din0 .backoff State.reset).src .din0).lock = .backoff ∧ ((withLock .din0 .lost State.reset).src .din0).lock = .lost ∧
    (((withLock .din0 .lost State.reset).updSrc .din0 (fun r => { r with armed := true })).src .din0).armed = true := by decide

/-- DIN0 LOCKED with a stream and MAIN playing it. -/
def lockedPlaying (f : Format) : State :=
  ((withZone .main .playing State.reset).updZone .main (fun r => { r with source := .din0 })).updSrc .din0
    (fun r => { r with lock := .locked, format := f, rate := some .r48, ifRate := some .r48, listeners := ⟨true, false, false⟩, syncTimer := some 0 })

theorem witness_LockGainedAndLost : ((seeking 3).src .din0).lock = .seeking ∧ 192000 ∈ [32000, 44100, 48000, 88200, 96000, 176400, 192000] ∧
    48001 ∉ [32000, 44100, 48000, 88200, 96000, 176400, 192000] ∧ ((lockedPlaying .pcm2).src .din0).lock = .locked ∧
    ((lockedPlaying .pcm2).src .din0).listeners.has .main = true ∧ ((lockedPlaying .pcm2).zone .main).state = .playing := by decide

/-- MCI LOCKED with PCMM of two channels while lane 3 shows transitions. -/
def lanesDiffer : State :=
  let s := State.reset.updSrc .mci (fun r =>
    { r with lock := .locked, format := .pcmm, channels := some 2, rate := some .r48, ifRate := some .r48
             laneTimer := some 0, syncTimer := some 0 })
  { s with siu := { s.siu with lanes := (Tab.replicate 4 false).set 3 true } }

theorem witness_SyncAndLane : ((lockedPlaying .none).src .din0).syncTimer.isSome = true ∧ (lanesDiffer.src .mci).format = .pcmm ∧
    (lanesDiffer.src .mci).laneTimer.isSome = true ∧ laneCount lanesDiffer = 8 := by decide

/-- A good frame of coded kind A, and one in error. -/
def goodFrame : FrameIn := ⟨some .a, 512, 512, some .r48, .upmix, true, 1⟩
def cutFrame : FrameIn := ⟨some .a, 512, 511, some .r48, .upmix, true, 2⟩

/-- DIN0 carrying coded kind A, DE0 decoding it. -/
def decoding : State :=
  let s := ((lockedPlaying .codedA).updSrc .din0 (fun r => { r with engine := some .de0 })).updZone .main
    (fun r => { r with source := .din0, engine := some .de0 })
  s.updEng .de0 (fun r => { r with state := .running, bound := some .din0, loaded := some (.codedA, .r48), consumers := ⟨true, false, false⟩ })

theorem witness_Frames : (decoding.src .din0).lock = .locked ∧ (decoding.src .din0).format = CodedKind.a.format ∧
    (decoding.src .din0).rate = some .r48 ∧ (decoding.src .din0).engine = some .de0 ∧ (decoding.eng .de0).state = .running ∧
    (decoding.eng .de0).mode = .decode ∧ judgeFrame goodFrame = .valid .a .r48 ∧ goodFrame.checkGood = true ∧
    judgeFrame { goodFrame with rate := none } = .malformed ∧ (decoding.eng .de0).errorRun < 7 := by decide

/-- DE0 loading for DIN0. -/
def loading : State := decoding.updEng .de0 (fun r => { r with state := .loading, loadTime := some 0 })

theorem witness_LoadEnd : (loading.eng .de0).state = .loading ∧ (State.reset.eng .de0).state = .free := by decide

/-- A consumer that waits in ACQUIRING for the end of the load. -/
theorem witness_LoadEnd_consumer : (loading.eng .de0).consumers.has .main = true ∧
    ((withZone .main .acquiring loading).zone .main).state = .acquiring := by decide

/-- In that state the engine and MAIN name each other. -/
theorem witness_ConsumersAgree : ConsumersAgree (withZone .main .acquiring loading) ∧
    ((withZone .main .acquiring loading).zone .main).engine = some .de0 ∧
    (match step { withZone .main .acquiring loading with pending := [.loadEnd .de0] } with | .next _ => true | _ => false) = true := by
  refine ⟨fun z => ⟨fun e => ?_, ?_, ?_⟩, by decide, by decide⟩ <;> cases z <;> (try cases e) <;> decide

theorem witness_MainMode : modeOfCode 3 = some .upmix ∧ modeOfCode 4 = none ∧ State.reset.zc.mode = .multi ∧
    needsEngineIn (lockedPlaying .pcm2) .multi .main ≠ needsEngineIn (lockedPlaying .pcm2) .upmix .main ∧
    needsEngineIn (lockedPlaying .pcm2) .multi .main = needsEngineIn (lockedPlaying .pcm2) .direct .main ∧
    ((lockedPlaying .pcm2).zone .main).state = .playing ∧ coefOfCode 4 = some .off ∧ coefOfCode 5 = none ∧
    200 % 10 = 0 ∧ ¬ 200 < 200 ∧ ¬ 40 < 40 := by decide

/-- Z2 playing the analog input ANA1. -/
def z2Playing : State :=
  ((withZone .z2 .playing State.reset).updZone .z2 (fun r => { r with source := .ana1 })).updSrc .ana1
    (fun r => { r with format := .pcm2, rate := some .r48 })

/-- MAIN playing four channels of PCMM in DIRECT, AC0 and AC2 at 0 dB. -/
def mainPlaying : State :=
  let s := lanesDiffer.updSrc .mci (fun r => { r with channels := some 4 })
  let u := ((withZone .main .playing s).setLev (.ac .ac0) ⟨0, 0, 1048576, 0, false⟩).setLev (.ac .ac2) ⟨0, 0, 1048576, 0, false⟩
  { u with
    zc := { u.zc with mode := .direct }
    siu := { u.siu with lanes := ⟨[true, true, false, false], rfl⟩ } }

/-- What a sample period's clauses look at: a source with no rate, a two-channel source, PCMM, an engine's feed, roles that are filtered, the tuner's mono. -/
theorem witness_Mapping : (mainPlaying.src .mci).format = .pcmm ∧ (mainPlaying.src .mci).channels = some 4 ∧
    (mainPlaying.zone .main).source = .mci ∧ (mainPlaying.zone .main).state = .playing ∧ mainPlaying.zc.mode = .direct ∧
    (decoding.src .din0).engine = some .de0 ∧ (smallRoles State.reset.cmap).all id = true ∧ State.reset.tun.stereo = false := by decide

theorem witness_SamplePeriod : (z2Playing.src .ana1).rate = some .r48 ∧ (z2Playing.src .ana1).format = .pcm2 ∧
    (z2Playing.src .ana1).silenced = false ∧ (z2Playing.src .ana1).engine = none ∧ (z2Playing.zone .z2).source = .ana1 ∧
    (z2Playing.zone .z2).state = .playing ∧ (z2Playing.zone .main).source ≠ .ana1 ∧ (z2Playing.zone .z3).source ≠ .ana1 ∧
    (State.reset.src .ana1).rate = none := by decide

theorem witness_AmpAssign : validResult State.reset [⟨11, none⟩] = none ∧ (validResult State.reset []).isNone = true ∧
    (validResult State.reset [⟨10, none⟩]).isSome = true ∧ State.reset.acc.reassign.isSome = false ∧
    ((withChan .ac10 .draining State.reset).chan .ac10).state = .draining ∧
    ((withChan .ac0 .active State.reset).chan .ac0).state = .active := by decide

/-- What R101 refuses: an empty list, one too long, a channel that does not exist, one that cannot be unassigned, what a channel cannot carry, a channel twice, a role twice, a pair split; and what it does not. -/
def refusedLists : List (List AssignEntry) :=
  [[], List.replicate 12 ⟨10, none⟩, [⟨11, none⟩], [⟨4, none⟩], [⟨0, some (0, 1)⟩], [⟨10, none⟩, ⟨10, none⟩], [⟨7, some (1, 9)⟩, ⟨8, some (1, 10)⟩],
    [⟨5, none⟩], [⟨8, none⟩]]
def validLists : List (List AssignEntry) := [[⟨10, none⟩], [⟨7, none⟩, ⟨8, none⟩], [⟨9, some (2, 9)⟩, ⟨7, some (1, 9)⟩, ⟨8, none⟩]]

theorem witness_AmpAssign_lists : refusedLists.all (fun l => (validResult State.reset l).isNone) = true ∧
    validLists.all (fun l => (validResult State.reset l).isSome) = true := by decide

/-- AC0 reported at the floor, in a state, its zone in STANDBY. -/
def atFloor (st : ChanState) : State :=
  let s := withChan .ac0 st State.reset
  { s with acc := { s.acc with floorReport := s.acc.floorReport.set 0 true } }

/-- The removal of AC10 in flight, the channel draining. -/
def swapping (reported : Bool) : State :=
  let s := (withChan .ac10 .draining State.reset).updChan .ac10 (fun r => { r with changing := true })
  { s with acc := { s.acc with
      floorReport := s.acc.floorReport.set 10 reported
      reassign := (validResult State.reset [⟨10, none⟩]).map (fun r => ⟨r, ticketAt (s.link .s) (fromS 0) 0x13⟩) } }

theorem witness_Floor : (atFloor .enabling).acc.floorReport.get ChanId.ac0.idx = true ∧ ((atFloor .enabling).chan .ac0).state = .enabling ∧
    ((atFloor .active).zone .main).state ≠ .playing ∧ (swapping true).acc.reassign.isSome = true ∧
    (swapping true).acc.floorReport.get 10 = true ∧ (swapping false).acc.floorReport.get 10 = false := by decide

/-- AC0 under test, its counter at some count. -/
def testing (count : Option Nat) : State :=
  let s := withPkg .p0 .on (withChan .ac0 .testing State.reset)
  { s with acc := { s.acc with check := some ⟨.ac0, count, ticketAt (s.link .s) (fromS 0) 0x14⟩ } }

theorem witness_LineCheck : chanOfCode (fromS 10).target.toNat = some .ac10 ∧ chanOfCode (fromS 11).target.toNat = none ∧
    (State.reset.chan .ac10).state = .idle ∧ (State.reset.pkg .p3).power = .off ∧ (testing none).acc.check.isSome = true ∧
    (testing (some 7)).acc.check.map LineCheck.counter = some (some 7) := by decide

theorem witness_Packages : ((withPkg .p0 .enabling State.reset).pkg .p0).power = .enabling ∧
    ((withPkg .p0 .retryWait State.reset).pkg .p0).power = .retryWait ∧ ((withPkg .p0 .on State.reset).pkg .p0).power = .on ∧
    min 4 ((State.reset.pkg .p0).misses + 1) < 4 ∧ (State.reset.link .s).mask.protect = true := by decide

/-- AC0 in FAULT by overcurrent, its retry wait run out. -/
def faulted : State := State.reset.updChan .ac0 (fun r => { r with state := .fault, cause := some .overcurrent, retries := 1, retryWait := some 0 })

theorem witness_Overcurrent : ((withChan .ac0 .active State.reset).chan .ac0).retries < 3 ∧
    ((testing (some 7)).chan .ac0).state = .testing ∧ ((withChan .ac0 .testing State.reset).acc.check.isNone) = true ∧
    (faulted.chan .ac0).cause = some .overcurrent ∧ (faulted.chan .ac0).retryWait.isSome = true := by decide

/-- The protection lock set. -/
def locked : State := { State.reset with tlm := { State.reset.tlm with lock := true } }

/-- The edges of R116's ranges. -/
def edgeLimits : Limits := ⟨255, 511, 255, 0, 1, 0, 0, 1023, 255, 32, 1⟩

theorem witness_Limits : locked.tlm.lock = true ∧ edgeLimits.pkgHyst < edgeLimits.pkgTrip - edgeLimits.pkgWarn ∧
    edgeLimits.hsHyst < edgeLimits.hsTrip - edgeLimits.hsWarn ∧ 2 * edgeLimits.railHyst < edgeLimits.railHigh - edgeLimits.railLow ∧
    edgeLimits.tempN ∈ [1, 4, 16, 32] ∧ edgeLimits.railN ∈ [1, 4, 16, 32] ∧ State.reset.acc.reassign = none := by decide

theorem witness_ProtClear : ((withChan .ac0 .latched State.reset).chan .ac0).state = .latched ∧
    ((withPkg .p0 .latched State.reset).pkg .p0).power = .latched := by decide

/-- A reading of some value formed at an input. -/
def formed (i : Sensor) (v : Nat) : State := State.reset.setMeas i { State.reset.meas i with due := some v }

theorem witness_Readings : (⟨0, 511, 0, 511, 0, 1023⟩ : SensorSamples).wf = true ∧ ((formed .t0 190).meas .t0).due = some 190 ∧
    (State.reset.meas .t0).due = none ∧ PkgId.p0.sensor = .t0 ∧ (State.reset.fan .f0).set.sensors.has .t0 = true ∧
    ((formed .vr 400).heat .p0).heat = .normal := by decide

theorem witness_Fans : fanOfCode (fromS 1).target.toNat = some .f1 ∧ fanOfCode (fromS 2).target.toNat = none ∧
    fanSettingsValid (State.reset.fan .f0).set = true ∧ (State.reset.fan .f0).spinUp.isNone = true ∧ (State.reset.fan .f0).meas = none := by
  decide

/-- Fan 0 turning, a measurement in progress past its guard. -/
def turning (edges count : Nat) : State :=
  State.reset.setFan .f0 { State.reset.fan .f0 with current := 64, target := 64, meas := some ⟨false, none, 0, edges, count⟩ }

theorem witness_Tach : ((turning 4 700).fan .f0).meas.isSome = true ∧ ((turning 4 700).fan .f0).set.edges = 5 := by decide

/-- At the tach update of a fan that runs below full duty a measurement begins whose hold turns its output fully on (R137). -/
theorem test_hold_turns_fully_on : after (.tachUpdate .f0) ((turning 4 700).setFan .f0 { (turning 4 700).fan .f0 with current := 100, spinUp := none })
    (fun t => (t.fan .f0).holding && (t.fan .f0).pwm == 255 && (t.fan .f0).outDuty == 100) = true := by decide

theorem witness_Tuner : bandOfCode 0 = some .fm ∧ bandOfCode 1 = some .am ∧ bandOfCode 2 = none ∧ State.reset.tun.raster = 9 ∧
    State.reset.tun.step ∈ [1, 2, 4] ∧ State.reset.tun.channel ≤ 410 ∧ State.reset.tun.state = .idle ∧
    State.reset.sdd.ann.state = .inactive ∧ (State.reset.src .tuner).listeners.isEmpty = true ∧
    (408 + State.reset.tun.step - 1) / State.reset.tun.step * State.reset.tun.step ≤ 410 := by decide

/-- A seek in progress at a dwell. -/
def seekDwell (cold back : Bool) : State :=
  { State.reset with tun := { State.reset.tun with
      state := .seeking, start := some 10, channel := 12, dwell := some ⟨cold, 0, back⟩, ticket := some (ticketAt (State.reset.link .s) (fromS 0) 0x1E) } }

/-- A tune of slot 0 in progress, the take pointer at slot 1: a seek that arrives replaces it in another slot. -/
def tuneInFlight : State := afterAll [.tunerTune (fromS 0) 0 100] State.reset

set_option maxRecDepth 16384 in
/-- A held ticket names its IN_FLIGHT slot while a seek, a scan or a soft reset arrives. -/
theorem witness_SlotsHeld : SlotsHeld tuneInFlight ∧ (heldTickets tuneInFlight).length = 1 ∧ tuneInFlight.tun.state ≠ .idle ∧
    arrives (fromS 0) 0x1D tuneInFlight = true ∧ arrives (fromS 0) 0x1E tuneInFlight = true ∧
    arrives (fromS 0) 0x2D tuneInFlight = true := by
  unfold SlotsHeld
  decide

set_option maxRecDepth 16384 in
/-- A line check holds its slot with the tuner in IDLE, where a tune or a scan arrives. -/
theorem witness_SlotsHeld_idle : SlotsHeld (afterAll [.lineCheck (fromS 10)] State.reset) ∧
    (heldTickets (afterAll [.lineCheck (fromS 10)] State.reset)).length = 1 ∧
    arrives (fromS 0) 0x1F (afterAll [.lineCheck (fromS 10)] State.reset) = true := by
  unfold SlotsHeld
  decide

set_option maxRecDepth 16384 in
/-- A LINK_RESET with a tune in flight. -/
theorem witness_HeldSlots_linkReset : SlotsHeld { tuneInFlight with pending := [.linkReset .s 0] } ∧
    (∀ k ∈ tickets tuneInFlight, k.link = .s ∧ k.gen ≠ (tuneInFlight.link .s).gen + 1) ∧
    (match step { tuneInFlight with pending := [.linkReset .s 0] } with | .next _ => true | _ => false) = true := by
  unfold SlotsHeld
  decide

/-- A zone waits for a converter pair while a tune arrives. -/
theorem witness_Tuner_convWait :
    let s := (State.reset.updZone .z3 (fun r => { r with source := .ana0, saved := some .ana1 }))
    ({ s with zc := { s.zc with convWait := [.z3] } } : State).zc.convWait.contains .z3 = true ∧ (s.zone .z3).source ≠ .tuner ∧
      (s.zone .z3).saved ≠ some .tuner ∧ s.tun.state = .idle ∧ arrives (fromS 0) 0x1D s = true := by decide

/-- A scan in progress, and its return dwell. -/
def scanDwell (back : Bool) : State :=
  { State.reset with tun := { State.reset.tun with
      state := .scanning, ret := some (.fm, 10), channel := 12, dwell := some ⟨false, 0, back⟩, scan := some ⟨.fm, 0, 410, 14, 0, 0⟩ } }

theorem witness_TunerStop : (seekDwell false false).tun.state = .seeking ∧ (scanDwell false).tun.ret = some (.fm, 10) ∧
    (∀ d ∈ (scanDwell false).tun.dwell, d.back = false) ∧ (State.reset.src .tuner).listeners.isEmpty = true ∧
    ({ State.reset.tun with band := .am, channel := 122 } : TunerRec).band = .am ∧
    amChan 10 (amFreq 9 0) = none ∧ (amChan 10 (amFreq 9 2)).isSome = true := by decide

theorem witness_Presets : indexOf40 39 = some 39 ∧ indexOf40 40 = none ∧ presetChan 9 .fm 8750 = some 0 ∧ presetChan 9 .fm 8751 = none ∧
    (allSome (uploadPreset 9) [⟨0, none⟩, ⟨39, some (0, 10800, none)⟩]).isSome = true ∧
    allSome (uploadPreset 9) [⟨40, none⟩] = none ∧ ([⟨0, none⟩, ⟨39, none⟩] : List UploadEntry).map UploadEntry.index = [0, 39] := by decide

/-- A tune at its dwell, not following a TUNER_STOP. -/
def tuneDwell : State := { seekDwell true false with tun := { (seekDwell true false).tun with state := .tuning } }

/-- An AF check at its hot dwell on channel 12, begun at quality 11. -/
def checkDwell (back : Bool) : State :=
  { State.reset with tun := { State.reset.tun with
      state := .afCheck, ret := some (.fm, 10), channel := 12, dwell := some ⟨false, 0, back⟩, af := some ⟨0x1234, 11, [12, 14], 0⟩ } }

theorem witness_Dwell_arms : tuneDwell.tun.state = .tuning ∧ tuneDwell.tun.stopping = false ∧ (seekDwell true true).tun.state = .seeking ∧
    (scanDwell false).tun.state = .scanning ∧ (scanDwell true).tun.scan.isSome = true ∧ (checkDwell false).tun.state = .afCheck ∧
    (∀ a ∈ (checkDwell false).tun.af, a.q0 + 10 ≤ 21) ∧ (checkDwell true).tun.dwell.map Dwell.back = some true := by decide

/-- TUNER just IDLE and LOCKED again: MAIN, in MULTI and still ACQUIRING on it, is a consumer of an engine loaded for UPMIX, or waits for one. -/
def tunerUpmix (e : Option EngineId) : State :=
  let s := (withZone .main .acquiring State.reset).updZone .main (fun r => { r with source := .tuner, wait := some .tuner, engine := e })
  let s := s.updSrc .tuner (fun r => { r with listeners := ⟨true, false, false⟩, engine := e })
  match e with
  | some e => s.updEng e (fun r => { r with
      state := .running, bound := some .tuner, mode := .upmix, loaded := some (.pcm2, .r48), consumers := ⟨true, false, false⟩ })
  | none => { s with de := { s.de with wait := [.main] } }

theorem witness_Dwell : (seekDwell true false).tun.baseline .fm / 16 + (seekDwell true false).tun.margin ≤ 22 ∧
    ¬ (seekDwell true false).tun.baseline .fm / 16 + (seekDwell true false).tun.margin ≤ 21 ∧
    (seekDwell true false).tun.ticket.map Ticket.slots = some 1 ∧
    (∀ k ∈ (seekDwell true false).tun.ticket, ((seekDwell true false).link k.link).gen = k.gen) ∧
    (scanDwell true).tun.dwell.map Dwell.back = some true ∧ State.reset.tun.dwell = none := by decide

/-- MAIN playing a station with two alternate frequencies, its weak-signal timer run out. -/
def weak : State :=
  let s := (withZone .main .playing State.reset).updZone .main (fun r => { r with source := .tuner })
  { s with
    tun := { s.tun with weak := some 0, quality := 15 }
    sdd := { s.sdd with data := { s.sdd.data with code := some 0x1234, afList := [3, 204] } } }

theorem witness_Weak : weak.tun.weak = some 0 ∧ weak.sdd.data.code.isSome = true ∧ weak.sdd.data.afList.isEmpty = false ∧
    (weak.zone .main).state = .playing ∧ State.reset.tun.weak = none := by decide

/-- An announcement in its hold, Z2 taken from ANA1 to the tuner. -/
def holding : State :=
  let s := (withZone .z2 .playing State.reset).updZone .z2 (fun r => { r with source := .tuner, saved := some .ana1 })
  { s with sdd := { s.sdd with ann := ⟨.ending, some 40, some 1, some 0x1234, some 0, ⟨false, true, false⟩⟩ } }

theorem witness_Hold : holding.sdd.ann.state = .ending ∧ holding.sdd.ann.taken.has .z2 = true ∧ (holding.zone .z2).state = .playing ∧
    (holding.zone .z2).saved = some .ana1 ∧ (holding.zone .z2).source ≠ .ana1 ∧ State.reset.sdd.ann.state ≠ .ending := by decide

/-- An announcement's type 0 group one word short: from the known station, accepted by the filter, Z2 following on ANA1. -/
def announcing (st : ZoneState) : State :=
  let s := (withZone .z2 st State.reset).updZone .z2 (fun r => { r with source := .ana1, follow := true })
  { s with sdd := { s.sdd with
      sync := .synced, pos := .d, group := some [0x1234, 0x0020, 0], filter := ⟨none, 1, false⟩
      data := { s.sdd.data with code := some 0x1234 } } }

theorem witness_Announcement : (announcing .playing).tun.state = .idle ∧ (announcing .playing).tun.band = .fm ∧
    (announcing .playing).sdd.bits = [] ∧ (announcing .playing).sdd.ann.state = .inactive ∧ (0x0020 : BitVec 16).toNat < 4096 ∧
    (0x0020 : BitVec 16).getLsbD 5 = true ∧ (announcing .playing).sdd.filter.mask.getLsbD (0x0020 / 128 % 32) = true ∧
    ((announcing .acquiring).zone .z2).follow = true ∧ ((announcing .playing).zone .z2).saved = none ∧
    (State.reset.link .s).mask.tuner = true := by decide

/-- SYNCED at a position, some bad words in the window, a group of type 1 begun. -/
def synced (pos : WordPos) (bad : Nat) : State :=
  { State.reset with sdd := { State.reset.sdd with
      sync := .synced, pos := pos, window := List.replicate bad false, group := some [0x1234, 0x1000, 0]
      data := { State.reset.sdd.data with code := some 0x1234 } } }

/-- A good word of a position. -/
def goodWord (pos : WordPos) (data : BitVec 16) : BitVec 24 := data ++ checkOf pos data

theorem witness_Words : State.reset.tun.band = .fm ∧ (synced .d 0).sdd.sync = .synced ∧ (synced .d 0).sdd.bits = [] ∧
    (synced .d 0).sdd.group = some [0x1234, 0x1000, 0] ∧ (synced .d 0).sdd.data.code = some 0x1234 ∧
    4096 ≤ (0x1000 : BitVec 16).toNat ∧ (synced .b 5).sdd.window.length = 5 := by decide

/-- An AF check in the cold dwell of an entry whose station sends the check's code. -/
def checkPasses : State :=
  { synced .d 0 with tun := { (checkDwell false).tun with dwell := some ⟨true, 0, false⟩ } }

theorem witness_Words_afCheck : checkPasses.tun.state = .afCheck ∧ checkPasses.tun.af.map AfRecord.code = some 0x1234 ∧
    checkPasses.tun.dwell.map (fun d => d.cold && !d.back) = some true ∧ checkPasses.tun.band = .fm ∧
    checkPasses.sdd.group = some [0x1234, 0x1000, 0] := by decide

set_option maxRecDepth 16384 in
/-- SEARCH with bits to slide through, with a first word and with two words before the third. -/
theorem witness_Search : State.reset.sdd.sync = .search ∧ (bitsOf (goodWord .a 7)).length = 24 ∧
    (bitsOf (goodWord .a 7) ++ bitsOf (goodWord .b 8) ++ bitsOf (goodWord .c 9)).length < 96 ∧
    goodPos (bitsOf (goodWord .a 7)) = some .a ∧ goodPos (bitsOf (0 : BitVec 24)) = none := by decide

set_option maxRecDepth 16384 in
theorem witness_Words_check : (((goodWord .d 7).extractLsb' 0 8 == checkOf .d ((goodWord .d 7).extractLsb' 8 16)) &&
    ((goodWord .a 7).extractLsb' 0 8 != checkOf .d ((goodWord .a 7).extractLsb' 8 16))) = true := by
  decide

theorem witness_KeypadTables : keypadOf 7 = some 7 ∧ keypadOf 8 = none ∧ ([⟨1, 32⟩] : List KeyEntryArg).length = 1 ∧ 63 + 1 ≤ 64 := by
  decide

/-- Keypad 3 with code 5 mapped to an action and a message of code 5 waiting (the keypad of the worked sequence of chapter 11). -/
def keyWaiting (a : Action) (flags : Byte) : State :=
  { State.reset with
    now := 30200
    kpp := { State.reset.kpp with
      rx0 := some ⟨3, 5 ||| flags, 0⟩, arrivals := 1, keymap := State.reset.kpp.keymap.set 5 ⟨a, 2⟩
      keys := State.reset.kpp.keys.set 3 ⟨some 5, 0, false⟩ } }

theorem witness_Keys : (keyWaiting .volUp 0).kpp.rx0 = some ⟨3, 5, 0⟩ ∧ (keyWaiting .volUp 0).kpp.rx1 = none ∧
    ((5 : Byte) ||| 0x40).toNat = 69 ∧ ((5 : Byte) ||| 0x80).toNat = 133 ∧
    zoneAllowed ((keyWaiting .volUp 0).perm .k) .z2 = true ∧ (keyWaiting .volUp 0).kpp.binding.get 3 = .z2 ∧
    30000 < (keyWaiting .volUp 0x40).now - ((keyWaiting .volUp 0x40).kpp.keys.get 3).pressed := by decide

/-- What the keys' actions look at: a ring with a successor, presets to recall and none, the other buffer entry older, a repeat of another key. -/
theorem witness_KeyActions : (State.reset.zone .z2).ring.findIdx? (fun x => x == (State.reset.zone .z2).source) = some 10 ∧
    State.reset.tun.presets.entries.all Option.isNone = true ∧ (State.reset.perm .k).tuner = true ∧
    (keyWaiting .volUp 0x40).now - 200 ≤ 30000 ∧ (State.reset.kpp.keys.get 3).current ≠ some 5 := by decide

theorem witness_Invariants : locked.pending.head? ≠ some .powerOnReset ∧ step locked = .next locked.tick := ⟨by decide, rfl⟩

theorem witness_TermsInRange : TermsInRange z2Playing :=
  ⟨fun p => by cases p <;> decide, fun z => by cases z <;> decide⟩

theorem witness_QueuesBounded : QueuesBounded z2Playing := fun l => by cases l <;> decide

theorem witness_VolumesInRange : VolumesInRange z2Playing := fun z => by cases z <;> decide

theorem witness_InvariantStep : step z2Playing = .next z2Playing.tick := rfl

/-! ## Zones (chapter 1) -/

theorem test_reset_restores : after .powerOnReset (withZone .main .playing State.reset) (fun t => t == State.reset) = true := by
  decide
theorem test_power_on_acquires : after (.zonePowerOn (fromS 0)) State.reset (fun t =>
    (t.zone .main).power == .on && (t.zone .main).state == .acquiring && (t.src .mci).lock == .seeking) = true := by decide
theorem test_power_standby_drains : after (.zonePowerStandby (fromS 0)) (withZone .main .playing State.reset) (fun t =>
    (t.zone .main).state == .switching && (t.zone .main).standbyFlag && (t.zone .main).power == .standby) = true := by decide
theorem test_power_toggle : after (.zonePowerToggle (fromS 2)) State.reset (fun t => (t.zone .z3).power == .on) = true := by
  decide
theorem test_source_switches : after (.zoneSource (fromS 0) 6) (withZone .main .playing State.reset) (fun t =>
    (t.zone .main).state == .switching && (t.zone .main).pending == some .ana0 && (t.zone .main).source == .mci) = true := by
  decide
theorem test_source_busy_while_draining : after (.zoneSource (fromS 0) 6) draining (fun t => t.zc == draining.zc) = true := by
  decide
theorem test_volume_clamps : after (.zoneVolume (fromS 1) (.relative 100)) State.reset (fun t =>
    (t.zone .z2).volume == 12 && slot0 t == [0x03, 1, 0x11, 1, 0, 0, 12, 0, 0, 0, 0, 0, 0, 0, 0, 0]) = true := by decide
theorem test_mute_toggles : after (.zoneMute (fromS 0) .toggle) State.reset (fun t => (t.zone .main).mute) = true := by decide
theorem test_sleep_not_available : after (.zoneSleep (fromS 0) 30) State.reset (fun t => t.zc == State.reset.zc) = true := by
  decide
theorem test_sleep_limited : after (.zoneSleep (fromS 0) 200) (withZone .main .playing State.reset) (fun t =>
    (t.zone .main).sleep == some ⟨180, 0⟩) = true := by decide
theorem test_announce_level : after (.zoneAnnounce (fromS 1) true 100) State.reset (fun t =>
    (t.zone .z2).follow && (t.zone .z2).minLevel == 12) = true := by decide
theorem test_query_changes_nothing : after (.zoneQuery (fromS 0) 0) State.reset (fun t =>
    { t with lnk := State.reset.lnk } == State.reset) = true := by decide
theorem test_limits_lower_volume : after (.zoneLimits (fromS 1) (-50) 4 true) State.reset (fun t =>
    (t.zone .z2).ceiling == -40 && (t.zone .z2).volume == -60 && (t.zone .z2).ramp == 4) = true := by decide
theorem test_ring_refuses_repeat : after (.zoneSourceRing (fromS 1) [5, 5]) State.reset (fun t => t.zc == State.reset.zc) = true := by
  decide
theorem test_sleep_minute : after (.sleepMinute .main) (sleeping 2 .playing) (fun t => (t.zone .main).sleep == some ⟨1, 0⟩) = true := by
  decide
theorem test_sleep_expiry : after (.sleepExpiry .main) (sleeping 1 .playing) (fun t =>
    (t.zone .main).state == .switching && (t.zone .main).lastOrigin == .part && (t.zone .main).sleep == none) = true := by decide
theorem test_drain_end_standby : after (.drainEnd .main) (drained none) (fun t => (t.zone .main).state == .standby) = true := by
  decide
theorem test_drain_end_source : after (.drainEnd .main) (drained (some .ana0)) (fun t =>
    (t.zone .main).source == .ana0 && (t.zone .main).pending == none && (t.zone .main).pair.isSome) = true := by decide

/-- R25: the freed pair goes to the source that the head of the list wants, whose zones play. -/
theorem test_pair_passes_on : after (.drainEnd .main) (pairFreed true [.z3, .z2]) (fun t =>
    (t.src .ana1).pair == some .cv0 && (t.zone .z3).state == .playing && (t.zone .z2).state == .playing && t.zc.convWait == []) = true := by
  decide

/-! ## Sources, engines, mapping (chapters 2 and 3) -/

theorem test_trim_clamps : after (.sourceTrim (fromS 1) (-20)) State.reset (fun t => (t.src .din0).trim == -12) = true := by decide
theorem test_backoff_of_third_failure : after (.attemptWindowExpiry .din0) (seeking 2) (fun t =>
    (t.src .din0).lock == .backoff && (t.src .din0).seqTimer == some 80) = true := by decide
theorem test_sixteenth_failure_is_lost : after (.attemptWindowExpiry .din0) (seeking 15) (fun t =>
    (t.src .din0).lock == .lost && (t.src .din0).attempts == 16) = true := by decide
theorem test_backoff_expiry : after (.backoffExpiry .din0) (withLock .din0 .backoff State.reset) (fun t =>
    (t.src .din0).lock == .seeking && (t.src .din0).seqTimer == some 10) = true := by decide
theorem test_lock_achieved : after (.lockAchieved .din0 44100) (seeking 3) (fun t =>
    (t.src .din0).lock == .locked && (t.src .din0).rate == some .r44 && (t.src .din0).syncTimer == some 64) = true := by decide
theorem test_no_lock_at_other_rate : idle (.lockAchieved .din0 50000) (seeking 3) = true := by decide
theorem test_lock_lost : after (.lockLost .din0) (withLock .din0 .locked State.reset) (fun t =>
    (t.src .din0).lock == .seeking && (t.src .din0).seqTimer == some 10) = true := by decide
theorem test_activity_rearms : after (.activityDetectorArm .din0) (withLock .din0 .lost State.reset) (fun t =>
    after (.activity .din0) t (fun u => (u.src .din0).lock == .seeking && (u.src .din0).attempts == 0)) = true := by decide
theorem test_sync_expiry_is_pcm : after (.syncTimerExpiry .din0) (lockedPlaying .none) (fun t => (t.src .din0).format == .pcm2) = true := by
  decide
theorem test_lane_timer : after .laneTimerExpiry lanesDiffer (fun t => (t.src .mci).channels == some 8) = true := by decide
theorem test_lane_activity : after (.laneActivity 1 true) State.reset (fun t => t.siu.lanes.get 1 && (t.src .mci).laneTimer == none) = true := by
  decide
theorem test_third_frame_establishes : after (.codedFrame .din0 goodFrame)
    ((withLock .din0 .locked State.reset).updSrc .din0 (fun r => { r with run := ⟨2, some (.a, .r48)⟩ })) (fun t => (t.src .din0).format == .codedA) = true := by
  decide
theorem test_short_frame_counts : after (.codedFrame .din0 { cutFrame with declared := 300, received := 255 }) (lockedPlaying .pcm2) (fun t =>
    (t.src .din0).shortFrames == 1 && (t.src .din0).run.count == 0) = true := by decide
theorem test_load_end : after (.loadEnd .de0) loading (fun t => (t.eng .de0).state == .running) = true := by decide
theorem test_main_mode : after (.mainMode (fromS 0) 3) State.reset (fun t => t.zc.mode == .upmix) = true := by decide
theorem test_dialogue : after (.dialogue (fromS 0) 20) State.reset (fun t => t.zc.lift == 12) = true := by decide
theorem test_bass : after (.bassConfig (fromS 0) ⟨0, 1, 1, 1, 1, 100, false⟩) State.reset (fun t =>
    t.cmap.front == .large && t.cmap.crossover == 100 && !t.cmap.layout.sw) = true := by decide
theorem test_downmix : after (.downmixConfig (fromS 0) ⟨1, 2, 3, 4, true⟩) State.reset (fun t =>
    t.cmap.bCoef == .db6 && t.cmap.hCoef == .off && t.cmap.pad) = true := by decide
theorem test_queries_answer : [Instr.sourceQuery (fromS 1) 0, .engineQuery (fromS 0) 0, .levelQuery (fromS 0) 0, .ampQuery (fromS 0) 0,
      .protQuery (fromS 0) 0, .fanQuery (fromS 0) 0, .presetRead (fromS 0) 0, .tunerQuery (fromS 0) 0, .stationDataQuery (fromS 0) 0,
      .keypadQuery (fromS 0) 0, .stationRead (fromS 0) 0 0].all
    (fun c => after c State.reset (fun t => { t with lnk := State.reset.lnk } == State.reset && (t.link .s).take == 1)) = true := by
  decide

/-! ## Levels and samples (chapter 4) -/

theorem test_gain_table : gainEntry 0 = 1048576 ∧ gainEntry (-160) = 0 ∧ gainEntry (-40) = 104858 ∧ gainEntry (-20) = 331589 := by
  decide
theorem test_channel_trim : after (.channelTrim (fromS 16) 25) State.reset (fun t => t.lvu.lineTrims.get 5 == 24) = true := by
  decide
theorem test_ramp_steps_up : after .rampStep z2Playing (fun t =>
    (t.lev (.line .z2l)).target == -60 && (t.lev (.line .z2l)).level == -158 && (t.lev (.line .z3l)).level == -160) = true := by
  decide
theorem test_sample_at_0dB : after (.samplePeriod .ana1 ⟨1000, -1000, 0, 0, 0, 0, 0, 0, 0, 0⟩)
    (z2Playing.setLev (.line .z2l) ⟨0, 0, 1048576, 0, false⟩) (fun t =>
      t.lvu.samples.get (OutId.line .z2l).idx == 1000 && t.lvu.samples.get (OutId.line .z2r).idx == 0) = true := by decide

set_option maxRecDepth 16384 in
theorem test_direct_maps_lanes : after (.samplePeriod .mci ⟨1000, 0, 2000, 0, 3000, 0, 0, 0, 0, 0⟩) mainPlaying (fun t =>
    t.lvu.samples.get (OutId.ac .ac0).idx == 1000 && t.lvu.samples.get (OutId.ac .ac2).idx == 2000) = true := by decide
set_option maxRecDepth 16384 in
/-- A lane that shows transitions is heard before the channel count has taken it (R38, R57). -/
theorem test_lane_above_count_is_heard : after (.samplePeriod .mci ⟨0, 0, 2000, 0, 0, 0, 0, 0, 0, 0⟩)
    (mainPlaying.updSrc .mci (fun r => { r with channels := some 2 })) (fun t =>
      t.lvu.samples.get (OutId.ac .ac2).idx == 2000) = true := by decide
theorem test_mono_on_both_sides (x : RoleSamples) : (tunerSamples State.reset .tuner x).fl = (tunerSamples State.reset .tuner x).fr := rfl
/-- An UPMIX engine's source turns coded: the listeners that were not its consumers are evaluated too (R5, R53). -/
theorem test_upmix_listeners_are_reported : upmixOthers
    (((lockedPlaying .codedA).updSrc .din0 (fun r => { r with engine := some .de0, listeners := ⟨true, true, false⟩ })).updEng .de0
      (fun r => { r with state := .running, mode := .upmix, consumers := ⟨true, false, false⟩ })) .din0 = [.z2] := by decide

/-! ## Amplifier channels (chapter 5) -/

/-- A floor report from before the zone left PLAYING does not end the channel's fade (R91). -/
theorem test_earlier_report_is_forgotten : after (.zonePowerStandby (fromS 0)) (withZone .main .playing (atFloor .active)) (fun t =>
    !t.acc.floorReport.get 0 && idle (.channelFloorIdle .ac0) t && (t.chan .ac0).state == .active) = true := by decide
/-- A fault on a channel that does not change brings no swap before the floor report (R83, R103). -/
theorem test_fault_elsewhere_brings_no_swap : after (.overcurrent .ac0 0) (withChan .ac0 .active (swapping false)) (fun t =>
    (t.chan .ac0).state == .fault && t.acc.reassign.isSome) = true := by decide
/-- Six entries in one slot (R189). -/
theorem test_assign_chain_short : after (.ampAssign (fromS 0) ((List.range 6).map (fun c => ⟨c + 5, none⟩))) State.reset (fun t =>
    t.acc == State.reset.acc && (slot0 t).take 2 == [0x13, 10]) = true := by decide

theorem test_assign_nothing_changed : after (.ampAssign (fromS 0) [⟨10, some (1, 10)⟩]) State.reset (fun t => t.acc == State.reset.acc) = true := by
  decide
set_option maxRecDepth 16384 in
theorem test_assign_swaps_at_once : after (.ampAssign (fromS 0) [⟨10, none⟩]) State.reset (fun t =>
    (t.chan .ac10).assign == none && t.acc.reassign.isNone) = true := by decide
theorem test_channel_floor_idle : after (.channelFloorIdle .ac0) (atFloor .active) (fun t => (t.chan .ac0).state == .idle) = true := by
  decide
set_option maxRecDepth 16384 in
theorem test_swap : after .reassignmentSwap (swapping true) (fun t =>
    (t.chan .ac10).assign == none && (t.chan .ac10).state == .idle && t.acc.reassign.isNone) = true ∧
    idle .reassignmentSwap (swapping false) = true := by decide
theorem test_line_check_powers_package : after (.lineCheck (fromS 10)) State.reset (fun t =>
    (t.chan .ac10).state == .testing && (t.pkg .p3).power == .enabling && t.acc.check.isSome) = true := by decide
theorem test_crossing_at_8_is_loaded : after (.lineCheckCrossing 1) (testing (some 7)) (fun t =>
    (t.chan .ac0).lastCheck == some (8, .loaded)) = true := by decide
theorem test_crossing_at_7_is_short : after (.lineCheckCrossing 0) (testing (some 7)) (fun t =>
    (t.chan .ac0).lastCheck == some (7, .short)) = true := by decide
theorem test_counter_full_is_open : after .lineCheckCounterFull (testing (some 1000)) (fun t =>
    (t.chan .ac0).lastCheck == some (1023, .open) && t.acc.check.isNone) = true := by decide
theorem test_ready_asserted : after (.readyAsserted .p0) (withChan .ac1 .enabling (withPkg .p0 .enabling State.reset)) (fun t =>
    (t.pkg .p0).power == .on && (t.chan .ac1).state == .active) = true := by decide
theorem test_ready_window : after (.readyWindowExpiry .p0) (withPkg .p0 .enabling State.reset) (fun t =>
    (t.pkg .p0).power == .retryWait && (t.pkg .p0).timer == some 1000 && t.flag (.stageSilent .p0)) = true := by decide
theorem test_fourth_miss_latches : after (.readyWindowExpiry .p0) ((withPkg .p0 .enabling State.reset).updPkg .p0 (fun r => { r with misses := 3 }))
    (fun t => (t.pkg .p0).power == .latched && (t.link .s).queue.map Notice.body == [.flagSet (.stageSilent .p0), .packageLatched .p0 4]) = true := by
  decide
theorem test_package_retry_unneeded : after (.packageRetryExpiry .p0) (withPkg .p0 .retryWait State.reset) (fun t =>
    (t.pkg .p0).power == .off) = true := by decide
theorem test_ready_lost : after (.readyLost .p0) (withChan .ac1 .active (withPkg .p0 .on State.reset)) (fun t =>
    (t.pkg .p0).power == .retryWait && (t.pkg .p0).misses == 1 && (t.chan .ac1).state == .enabling) = true := by decide
theorem test_overcurrent_third_retry : after (.overcurrent .ac0 0) ((withChan .ac0 .active State.reset).updChan .ac0 (fun r => { r with retries := 2 }))
    (fun t => (t.chan .ac0).state == .fault && (t.chan .ac0).retryWait == some 4000 && t.flag (.ocSeen .p0)) = true := by decide
theorem test_overcurrent_fourth_latches : after (.overcurrent .ac0 0) ((withChan .ac0 .active State.reset).updChan .ac0 (fun r => { r with retries := 3 }))
    (fun t => (t.chan .ac0).state == .latched) = true := by decide
theorem test_channel_retry : after (.channelRetryExpiry .ac0) faulted (fun t => (t.chan .ac0).state == .idle && (t.chan .ac0).retries == 1) = true := by
  decide
theorem test_overcurrent_free_run : after (.overcurrentFreeRun .ac0)
    ((withChan .ac0 .active State.reset).updChan .ac0 (fun r => { r with retries := 3 })) (fun t => (t.chan .ac0).retries == 0) = true := by
  decide

/-! ## Thermal and load monitor, fans (chapters 6 and 7) -/

theorem test_limits_at_the_edges : after (.protLimits (chainS 2 0) edgeLimits) State.reset (fun t => t.tlm.limits == edgeLimits) = true ∧
    after (.protLimits (chainS 2 0) edgeLimits) locked (fun t => t.tlm == locked.tlm) = true := by decide
theorem test_clip_guard : after (.clipGuard (fromS 2) 65535) State.reset (fun t => (t.guard .z3).limit == 65535) = true := by decide
theorem test_lock : after (.protLock (fromS 0)) State.reset (fun t => t.tlm.lock) = true := by decide
theorem test_clear_releases : after (.protClear (fromS 0) ⟨.empty, [.ac0], .empty⟩) (withChan .ac0 .latched State.reset) (fun t =>
    (t.chan .ac0).state == .idle) = true := by decide
theorem test_fourth_rail_sample : after (.samplingTimer ⟨0, 0, 0, 0, 0, 402⟩)
    (State.reset.setMeas .vr { State.reset.meas .vr with sum := 1200, count := 3 }) (fun t => (t.meas .vr).due == some 401) = true := by
  decide
/-- The T1 reading 190 of the worked sequence of section 6.3. -/
theorem test_reading_190_is_warm : after (.readingUpdate .t1) (formed .t1 190) (fun t =>
    (t.heat .p1).heat == .warm && t.flag (.warnSeen .p1) && (t.meas .t1).reading == 190) = true := by decide
theorem test_derate_steps : after (.derateStep .p1) (State.reset.setHeat .p1 ⟨.warm, 0, 0⟩) (fun t => t.heat .p1 == ⟨.warm, -1, 500⟩) = true := by
  decide
/-- The first window of the worked sequence of section 6.5: clip sum 6,200, K after -1. -/
theorem test_clip_window : after (.clipWindowEnd .main)
    ((withZone .main .playing State.reset).setLev (.ac .ac0) ⟨-30, -30, 186464, 6200, true⟩) (fun t =>
      t.guard .main == ⟨-1, 4800, 0, 0⟩ && (t.lev (.ac .ac0)).clips == 0) = true := by decide
theorem test_fan_curve : after (.fanCurve (chainS 2 0) { (State.reset.fan .f0).set with d1 := 10, stopAllowed := false }) State.reset (fun t =>
    (t.fan .f0).set.d1 == 10 && (t.fan .f0).target != 0 && (t.fan .f0).spinUp == some 1000) = true := by decide
theorem test_duty_step : after .dutyStep (State.reset.setFan .f0 { State.reset.fan .f0 with current := 100, target := 110 }) (fun t =>
    (t.fan .f0).current == 110 && t.fnc.dutyTimer == 100) = true := by decide
/-- A measurement's hold turns the output fully on and leaves the duty; the fifth edge ends both (R133, R137). -/
theorem test_hold_turns_output_on : after (.tachUpdate .f0) (turning 4 700) (fun t =>
    (t.fan .f0).pwm == 255 && (t.fan .f0).outDuty == 64 && (t.fan .f0).current == 64) = true ∧
    after (.tachEdge .f0 100) (turning 4 700) (fun t => (t.fan .f0).pwm == 64) = true := by decide
theorem test_spin_up_ends : after (.spinUpExpiry .f0) (State.reset.setFan .f0 { State.reset.fan .f0 with target := 73, spinUp := some 0 }) (fun t =>
    (t.fan .f0).current == 73 && (t.fan .f0).spinUp == none) = true := by decide
theorem test_fifth_edge_completes : after (.tachEdge .f0 100) (turning 4 700) (fun t => (t.fan .f0).done == some 800) = true := by
  decide
/-- Past 65,533 the E-th edge completes nothing (R137). -/
theorem test_late_edge_is_incomplete : after (.tachEdge .f0 4) (turning 4 65530) (fun t =>
    (t.fan .f0).meas == none && (t.fan .f0).done == none && (t.fan .f0).partialEdges == 4) = true := by decide
theorem test_guard_end : after (.guardEnd .f0) (State.reset.setFan .f0 { State.reset.fan .f0 with meas := some ⟨false, some 5, 0, 0, 0⟩ }) (fun t =>
    (t.fan .f0).meas == some ⟨false, none, 0, 0, 0⟩) = true := by decide
theorem test_count_limit : after (.tachCountLimit .f0) (turning 2 65533) (fun t => (t.fan .f0).meas == none && (t.fan .f0).partialEdges == 2) = true := by
  decide
/-- The fourth period of the worked sequence of section 7.5. -/
theorem test_third_bad_period_stalls : after (.tachUpdate .f0)
    (State.reset.setFan .f0 { State.reset.fan .f0 with current := 120, target := 120, stallRun := 2 }) (fun t =>
      (t.fan .f0).stalled && (t.fan .f0).reading == 0xFFFF && t.flag .fan0Stall) = true := by decide

/-! ## Tuner and station data (chapters 8 and 9) -/

theorem test_tune : after (.tunerTune (fromS 0) 0 410) State.reset (fun t =>
    t.tun.state == .tuning && t.tun.channel == 410 && t.tun.dwell == some ⟨true, 40, false⟩) = true := by decide
/-- The first dwells of the worked sequence of section 8.5. -/
theorem test_seek : after (.tunerSeek (fromS 0) 0) State.reset (fun t => t.tun.channel == 12 &&
    after (.dwellEnd 9 false) t (fun u => u.tun.channel == 14 && u.tun.baseFm == 158)) = true := by decide
theorem test_seek_settles : after (.dwellEnd 30 true) (seekDwell true false) (fun t =>
    t.tun.state == .idle && t.tun.quality == 30 && t.tun.stereo) = true := by decide
/-- The return dwell of a seek completes NONE_FOUND with its quality (R150). -/
theorem test_seek_none_found : after (.dwellEnd 30 true) (seekDwell true true) (fun t =>
    (slot0 t).take 2 == [0x1E, 13] && (slot0 t).drop 5 == 30 :: List.replicate 10 0 && t.tun.state == .idle) = true := by decide
/-- TUNER has been out of IDLE while MAIN left UPMIX: at PCM2 its engine releases MAIN, which plays the PCM (R31, R53). -/
theorem test_idle_tuner_releases_upmix :
    let t := enginePart .tuner (tunerUpmix (some .de0))
    (t.zone .main).state = .playing ∧ (t.zone .main).engine = none ∧ (t.eng .de0).state = .free := by decide
/-- The same report ends MAIN's wait for an engine (R52). -/
theorem test_idle_tuner_ends_engine_wait : (enginePart .tuner (tunerUpmix none)).de.wait = [] := by decide
theorem test_scan_starts : after (.tunerScan (fromS 0) 1 5 122 false) State.reset (fun t =>
    t.tun.state == .scanning && t.tun.band == .am && t.tun.channel == 5) = true := by decide
theorem test_stop : after (.tunerStop (fromS 0)) (seekDwell false false) (fun t => t.tun.state == .idle && t.tun.channel == 12) = true := by
  decide
theorem test_preset_store : after (.presetStore (fromS 39)) State.reset (fun t => t.tun.presets.get 39 == some ⟨.fm, 8800, none⟩) = true := by
  decide
theorem test_preset_recall : after (.presetStore (fromS 39)) State.reset (fun t => after (.presetRecall ⟨.s, 0, 39, false, 1⟩) t (fun u =>
    u.tun.state == .tuning && u.tun.lastPreset == some 39)) = true := by decide
theorem test_preset_upload : after (.presetUpload (chainS 2 0) [⟨0, some (0, 8750, none)⟩, ⟨1, some (0, 8751, none)⟩]) State.reset (fun t =>
    t.tun == State.reset.tun) = true := by decide
theorem test_region : after (.tunerRegion (fromS 0) 1 10) State.reset (fun t => t.tun.step == 1 && t.tun.raster == 10) = true := by
  decide
theorem test_thresholds : after (.tunerThresholds (fromS 0) 50 0) State.reset (fun t => t.tun.margin == 50 && t.tun.afMargin == 0) = true := by
  decide
theorem test_quality_monitor : after (.qualityMonitor 25 true) weak (fun t => t.tun.quality == 25 && t.tun.weak == some 0) = true := by
  decide
theorem test_weak_signal : after .weakSignalExpiry { weak with zc := (withZone .main .playing State.reset).zc } (fun t => t.tun.weak == none &&
    t.tun.state == .idle) = true := by decide
set_option maxRecDepth 16384 in
theorem test_good_word : after (.subcarrierWord (goodWord .b 0x1000)) (synced .b 0) (fun t => t.sdd.pos == .c && t.sdd.window == [true]) = true := by
  decide
set_option maxRecDepth 16384 in
theorem test_sixth_bad_word : after (.subcarrierWord (goodWord .a 0)) (synced .b 5) (fun t => t.sdd.sync == .search && t.sdd.badWords == 1) = true := by
  decide
theorem test_filter : after (.announceFilter (fromS 0) (some 0x5A21) 8 false) State.reset (fun t =>
    t.sdd.filter == ⟨some 0x5A21, 8, false⟩) = true := by decide
theorem test_announcement_takes_follower : takeable (announcing .playing) .z2 = true ∧
    ((takeZone .z2 (announcing .playing)).zone .z2).saved = some .ana1 ∧
    ((takeZone .z2 (announcing .playing)).zone .z2).pending = some .tuner := by decide
theorem test_return_of_zone : ((returnZone .z2 holding).zone .z2).pending = some .ana1 ∧
    ((returnZone .z2 holding).zone .z2).saved = none := by decide
theorem test_hold_needs_an_ending : idle .announceHoldExpiry State.reset = true := by decide

set_option maxRecDepth 16384 in
/-- R161: the check's own code in the cold dwell ends the check on the entry's channel. -/
theorem test_check_passes : after (.subcarrierWord (goodWord .d 0)) checkPasses (fun t =>
    t.tun.state == .idle && t.tun.channel == 12 && t.tun.af == none) = true := by decide

/-! ## Links and keypads (chapters 10 and 11) -/

theorem test_permit : after (.linkPermit (fromS 0) 1 ⟨true, false, false, false, false, false⟩) State.reset (fun t =>
    t.perm .k == ⟨true, false, false, false, false, false⟩) = true := by decide
theorem test_notice_mask : after (.noticeMask (fromN 0) ⟨true, false, false, false, true⟩ false) State.reset (fun t =>
    (t.link .n).mask == ⟨true, false, false, false, true⟩ && !(t.link .n).attention && (t.link .s).attention) = true := by decide
theorem test_soft_reset : after (.softReset (fromS 0)) (withZone .z2 .playing State.reset) (fun t =>
    (t.zone .z2).state == .standby && t.lnk.resetting.isSome) = true := by decide
theorem test_unknown_kind : after (.unknownRequestKind (fromS 0) 0x31) State.reset (fun t =>
    slot0 t == [0x31, 4, 0x11, 0, 0, 0, 0, 0, 0, 0, 0, 0, 0, 0, 0, 0]) = true := by decide
theorem test_lone_continuation : after (.continuation (fromS 0)) State.reset (fun t => (slot0 t).take 3 == [0xFF, 11, 0x11]) = true := by
  decide
/-- ZONE_VOLUME absolute -20 for Z2, byte by byte from section 10.8. -/
theorem test_written_slot_acts : after (.writeSlot .s 0x80
    [0x03, 0, 7, 1, 3, 0, 0xFF, 0xEC, 0, 0, 0, 0, 0, 0, 0, 0] false) State.reset (fun t => (t.zone .z2).volume == -20) = true := by
  decide
theorem test_write_slot_in_part : after (.writeSlot .s 0x80 [3] false) State.reset (fun t =>
    (t.link .s).slots == (State.reset.link .s).slots && (t.link .s).lastFrame == .truncated) = true := by decide
theorem test_read_slot : after (.readSlot .s 0) State.reset (fun t => (t.link .s).dataOut == List.replicate 18 0) = true := by decide
theorem test_read_link : after (.readLink .n 0) State.reset (fun t => (t.link .n).dataOut == [0, 0, 0, 0, 0x0F, 1, 0x1F, 0, 0]) = true := by
  decide
theorem test_read_notices_removes_whole : after (.readNotices .s 2 (.whole 33)) (State.reset.posted [(.resetDone, .s), (.resetDone, .s)]) (fun t =>
    (t.link .s).queue.length == 1) = true := by decide
/-- A notice dropped after the header sets the overrun flag again (R193). -/
theorem test_overrun_during_read : after (.readNotices .s 1 .header) (State.reset.posted (List.replicate 17 (.resetDone, .s))) (fun t =>
    (t.link .s).overrun == false && after (.zoneMute (fromN 1) .on) t (fun u => after (.readNotices .s 1 .finish) u (fun v =>
      (v.link .s).overrun && (v.link .s).reading.isNone && (v.link .s).queue.length == 16))) = true := by decide
/-- A request IN_FLIGHT reads back as it was written (R185): TUNER_TUNE on FM, channel 410. -/
theorem test_in_flight_record : after (.tunerTune (fromS 0) 0 410) State.reset (fun t =>
    slot0 t == [0x1D, 0, 0x11, 0, 1, 0, 1, 0x9A, 0, 0, 0, 0, 0, 0, 0, 0]) = true := by decide
/-- A NAME notice holds the code and all eight characters (R179). -/
theorem test_name_notice : (Notice.bytes ⟨.stationName (some 0x1234) [65, 66, 67, 68, 69, 70, 71, 72], .part, 0⟩).drop 6 =
    [0x12, 0x34, 65, 66, 67, 68, 69, 70, 71, 72] := by decide
/-- FAN_CURVE is LOCKED under the lock, whatever its flag bytes (R140). -/
theorem test_fan_curve_locked_first : after (.writeSlot .s 0 (0x1B :: 1 :: 7 :: 0 :: 2 :: List.replicate 11 0) false) locked (fun t =>
    after (.writeSlot .s 1 (0xFF :: 7 :: List.replicate 14 9) false) t (fun u =>
      after (.writeSlot .s 0x81 (0xFF :: 7 :: List.replicate 14 9) false) u (fun v =>
        after (.writeSlot .s 0x80 (0x1B :: 1 :: 7 :: 0 :: 2 :: List.replicate 11 0) false) v (fun x => (slot0 x).take 2 == [0x1B, 9])))) = true := by
  decide
theorem test_link_reset : after (.linkReset .s 0) (State.reset.posted [(.resetDone, .s)]) (fun t =>
    (t.link .s).queue == [] && (t.link .s).gen == 1 && (t.link .n).queue.length == 1) = true := by decide
theorem test_bad_frame : after (.badFrame .s 6 0) State.reset (fun t => (t.link .s).lastFrame == .badFrame) = true := by decide
theorem test_frame_ends_early : after (.frameTruncated .s) State.reset (fun t => (t.link .s).lastFrame == .truncated) = true := by decide
theorem test_frame_stall : after (.frameStall .s .header) State.reset (fun t => (t.link .s).lastFrame == .stalled) = true := by decide
theorem test_keypad_bind : after (.keypadBind (fromS 0) 7 0) State.reset (fun t => t.kpp.binding.get 7 == .main) = true := by decide
theorem test_keymap_load : after (.keymapLoad (fromS 0) 63 1 [⟨2, 32⟩]) State.reset (fun t => t.kpp.keymap.get 63 == ⟨.volDown, 32⟩) = true := by
  decide
theorem test_third_key_message_is_dropped : after (.keyMessage 1 5) State.reset (fun t => after (.keyMessage 2 5) t (fun u =>
    after (.keyMessage 6 9) u (fun v => v.kpp.overflow && v.kpp.ignored == 1 && (v.link .s).queue.map Notice.body == [.keypadOverrun 6 9]))) = true := by
  decide
theorem test_select : after (.select 0x86) State.reset (fun t => t.kpp.readback == .z3) = true := by decide
theorem test_malformed_write : after (.malformedKeypadWrite [1, 2, 3]) State.reset (fun t => t.kpp.ignored == 1) = true := by decide
theorem test_readback : after (.readbackRead 5) State.reset (fun t => t.kpp.readOut == [0, 5, 100, 0, 0]) = true := by decide
/-- The press of the worked sequence of chapter 11: V of Z2 rises by 2. -/
theorem test_press_raises_volume : after .keyPress (keyWaiting .volUp 0) (fun t => (t.zone .z2).volume == -58 && t.kpp.rx0 == none) = true := by
  decide
theorem test_source_next : after .keyPress (keyWaiting .sourceNext 0) (fun t => (t.zone .z2).source == .din0 && t.kpp.ignored == 0) = true := by
  decide
/-- The repeat at 30,200 ms of the worked sequence of chapter 11. -/
theorem test_stuck_key : after .keyRepeat (keyWaiting .volUp 0x40) (fun t => (t.zone .z2).volume == -60 && t.kpp.ignored == 1 &&
    (t.link .s).queue.map Notice.body == [.keyStuck 3 5]) = true := by decide
theorem test_release : after .keyRelease (keyWaiting .volUp 0x80) (fun t => (t.kpp.keys.get 3).current == none) = true := by decide

/-- R185 gives the outcome of a WRITE_SLOT cut short, also of one judged BAD_FRAME. -/
theorem test_write_cut_short : after (.writeSlot .s 0x08 [1] false) State.reset (fun t =>
    (t.link .s).lastFrame == .truncated && (t.link .s).dataOut == [2]) = true := by decide

/-- R184: a clock edge starts the stall timer again, and a millisecond without one counts. -/
theorem test_stall_timer : after (.readNotices .s 1 .header) State.reset (fun t =>
    (t.tick.link .s).reading.map NoticeRead.stall == some 9 &&
    after (.readNotices .s 1 (.shift 1)) t.tick (fun u => (u.link .s).reading.map NoticeRead.stall == some 10)) = true := by decide

end Sys2Proof.Tests
end

section
/-! PROOFS. Power-on reset. -/
namespace Sys2Proof.Machine

/-- Power-on reset ends in the reset state, with the commands and choices still to come left as they were. -/
@[simp] theorem exec_powerOnReset (s : State) :
    exec .powerOnReset s = .next { State.reset with pending := s.pending, choices := s.choices } := rfl

/-- A zone is read from the zone table alone, so the queue of commands and the choices do not bear on it. -/
@[simp] theorem zone_reset_with_queue (p : List Instr) (k : Nat) (z : ZoneId) :
    ({ State.reset with pending := p, choices := k } : State).zone z = State.reset.zone z := rfl

/-- Each zone's record after reset: the default record with the zone's source and ceiling (R2). -/
theorem zone_reset (z : ZoneId) : State.reset.zone z = match z with
    | .main => ZoneRec.reset .mci 36
    | .z2 => ZoneRec.reset .net 12
    | .z3 => ZoneRec.reset .tuner 12 := by
  cases z <;> rfl

/-- Settles O3: the reset records of R2's table, zone by zone. -/
theorem powerOnResetZoneTable : Obligations.PowerOnResetZoneTable := by
  intro s
  refine ⟨_, exec_powerOnReset s, rfl, rfl, rfl, fun z => ?_⟩
  rw [zone_reset_with_queue, zone_reset]
  cases z with
  | main => rfl
  | z2 => rfl
  | z3 => rfl

end Sys2Proof.Machine
end

section
/-! PROOFS. Power-on reset of the amplifier channels. -/
namespace Sys2Proof.Machine

/-- The power-on assignment of R87, channel by channel. -/
def powerOnAssign : ChanId → Assign
  | .ac0 => ⟨.main, .fl⟩
  | .ac1 => ⟨.main, .fr⟩
  | .ac2 => ⟨.main, .c⟩
  | .ac3 => ⟨.main, .sl⟩
  | .ac4 => ⟨.main, .sr⟩
  | .ac5 => ⟨.main, .sbl⟩
  | .ac6 => ⟨.main, .sbr⟩
  | .ac7 => ⟨.main, .hl⟩
  | .ac8 => ⟨.main, .hr⟩
  | .ac9 => ⟨.z2, .l⟩
  | .ac10 => ⟨.z2, .r⟩

/-- A channel is read from the channel table alone, so the queue of commands and the choices do not bear on it. -/
@[simp] theorem chan_reset_with_queue (p : List Instr) (k : Nat) (c : ChanId) :
    ({ State.reset with pending := p, choices := k } : State).chan c = State.reset.chan c := rfl

/-- A package is read from the package table alone, so the queue of commands and the choices do not bear on it. -/
@[simp] theorem pkg_reset_with_queue (p : List Instr) (k : Nat) (g : PkgId) :
    ({ State.reset with pending := p, choices := k } : State).pkg g = State.reset.pkg g := rfl

/-- After reset the channels differ in their assignment alone (R87, R110). -/
theorem chan_reset (c : ChanId) :
    State.reset.chan c = ChanRec.reset (powerOnAssign c).zone (powerOnAssign c).role := by
  cases c <;> rfl

/-- All four packages hold one record after reset (R110). -/
theorem pkg_reset (g : PkgId) : State.reset.pkg g = PkgRec.reset := Tab.get_replicate PkgRec.reset g.idx

theorem zone_reset_state (z : ZoneId) : (State.reset.zone z).state = .standby := by
  rw [zone_reset]
  cases z <;> rfl

/-- Settles O5: channels and packages by their reset records, zones by R2's table. -/
theorem powerOnResetAmplifierTable : Obligations.PowerOnResetAmplifierTable := by
  intro s
  refine ⟨_, exec_powerOnReset s, fun c => ?channel, fun g => ?package, rfl, rfl, zone_reset_state⟩
  case channel =>
    rw [chan_reset_with_queue, chan_reset]
    refine ⟨?assigned, rfl, rfl, rfl, rfl, rfl, rfl, rfl, rfl⟩
    case assigned => cases c <;> rfl
  case package =>
    rw [pkg_reset_with_queue, pkg_reset]
    exact ⟨rfl, rfl, rfl, rfl⟩

end Sys2Proof.Machine
end
